-- ==== Sys2Proof/Word.lean ====
section
/-! DEFINITION. The byte, the one word of the part's wires: every frame is a list of bytes (file 09, R161). -/

namespace Sys2Proof

/-- One byte of a frame or of the profile store. -/
abbrev Byte := BitVec 8

end Sys2Proof
end

