-- ==== Sys2Proof/Machine/Bytes.lean ====
section
/-! DEFINITION. Little-endian fields (file 09, R161): writing numbers as bytes and reading them back. -/

namespace Sys2Proof.Machine

/-- R161: the number in `n` bytes, the least significant first. -/
def le : Nat → Nat → List Byte
  | 0, _ => []
  | n + 1, x => BitVec.ofNat 8 x :: le n (x / 256)

/-- R161: the number that bytes spell, the least significant first. -/
def ofLe : List Byte → Nat
  | [] => 0
  | b :: bs => b.toNat + 256 * ofLe bs

/-- Fields one after another, each given by its width in bytes and its value. -/
def pack (fields : List (Nat × Nat)) : List Byte := fields.flatMap fun f => le f.1 f.2

/-- The values of fields of these widths read from the front of the bytes. -/
def readFields : List Nat → List Byte → List Nat
  | [], _ => []
  | w :: ws, bs => ofLe (bs.take w) :: readFields ws (bs.drop w)

/-- The values of fields of these widths, when the bytes are exactly as many as the fields take (R164). -/
def cut (widths : List Nat) (bs : List Byte) : Option (List Nat) :=
  if bs.length = widths.sum then some (readFields widths bs) else none

/-- R163: a field that may be absent, after its presence byte. -/
def optional (f : Option (List Byte)) : List Byte :=
  match f with
  | none => le 1 0
  | some bs => le 1 1 ++ bs

/-- R163: a yes-or-no field. -/
def flagByte (b : Bool) : List Byte := le 1 b.toNat

/-- R163: a set of up to eight members in one byte, bit 0 for the first. -/
def setByte (members : List Bool) : List Byte :=
  le 1 (members.foldr (fun b n => b.toNat + 2 * n) 0)

/-- R163: a time in milliseconds. -/
def timeBytes (t : Nat) : List Byte := le 6 t

end Sys2Proof.Machine
end

