-- ==== Sys2Proof/Config.lean ====
section
/-! DEFINITION. The sizes and limits of the part that its rules fix, and the one value they leave open. -/

namespace Sys2Proof.Config

/-- R1: slots of the title table. -/
def titleSlots : Nat := 48
/-- R21: codes on the miss list. -/
def missListSize : Nat := 8
/-- R25: entries of the range map. -/
def rangeEntries : Nat := 32
/-- R37: slots of the volume table. -/
def volumeSlots : Nat := 64
/-- R83: entries of the case window. -/
def caseWindowSize : Nat := 8
/-- R135: entries of the jacket window. -/
def jacketWindowSize : Nat := 4
/-- R103: bays of the press. -/
def bayCount : Nat := 16
/-- R168: entries of the report queue. -/
def reportQueueSize : Nat := 32
/-- Conventions of file 00: a 32-bit counter saturates here. -/
def counterMax : Nat := 4294967295
/-- Terms of file 00: the greatest title code and the greatest unit number. -/
def codeMax : Nat := 16777215
/-- Terms of file 00: the greatest case number. -/
def caseNumberMax : Nat := 1048575
/-- R48, R77: the greatest raw gauge reading. -/
def rawMax : Nat := 2047

/-- FREE VALUE (log entry 9): the bytes the profile store holds after a device reset interrupted a write. R188
gives the marker (invalid) and nothing of the bytes. The argument is `State.draws`, fresh at every use. -/
opaque tornStore : Nat → List Byte

end Sys2Proof.Config
end

