-- ==== Sys2Proof/Syntax.lean ====
section
/-! DEFINITION. The commands of the part: one constructor of `Instr` for each row of spec/opcode_table.json, with
the operands its rule reads. Numbers travel as little-endian bytes (R161); `WellFormed` bounds them by their width. -/

namespace Sys2Proof

/-- A station line; `0` stands for station line 1 and `4` for station line 5. -/
abbrev Line := Fin 5

/-- A port of the part (file 09): a station line, or the supervisor port, number 6. -/
inductive Port where
  | station (l : Line)
  | supervisor
  deriving DecidableEq, Repr

/-- The message kinds of the two tables of file 09, section 9.2. -/
inductive Kind where
  | caseSeen | cased | caseSpoiled | bayClosed | bayCleared | bayFault | jacketSeen | delivered
  | entry | caseCall | nextMove | gauge | foldCall
  | titleLoad | titleAmend | titleHold | titleFree | titleRetire | titlePurge | titleRead | missRead
  | rangeSet | rangeClear | rangeRead | volumeRead | volumeFind | volumeWriteoff | bayService | bayRead
  | paceSet | paceRelease | statusRead | noticeEnable | noticeClear | noticeRead
  | profileSet | profileRead | profileSave | lineClear
  deriving DecidableEq, Repr

/-- The ways a frame is bad (R162): the last of them on the supervisor port only, the two before it on station
lines only. -/
inductive BadFrame where
  | badLength
  | badCheck
  | framingFault
  | byteGap
  | selectRose
  deriving DecidableEq, Repr

/-- The seven fields of a jacket part (R2), in tenths of a millimetre. -/
structure JacketPart where
  sheet : Nat
  centre : Nat
  panel : Nat
  spine : Nat
  wrap : Nat
  growth : Nat
  minFlap : Nat
  deriving DecidableEq, Repr

/-- The process group of a title request as sent (section 1.2): band is the band byte. -/
structure ProcessGroup where
  band : Nat
  dwellBase : Nat
  dwellSlope : Nat
  quota : Nat
  deriving DecidableEq, Repr

/-- The geometry group of a title request as sent (section 1.2): marry is the marry mode byte. -/
structure GeometryGroup where
  marry : Nat
  tNom : Nat
  board : Nat
  jacket : Option JacketPart
  deriving DecidableEq, Repr

/-- The two forms of RANGE_READ (R34). -/
inductive RangeQuery where
  | index (i : Nat)
  | serial (n : Nat)
  deriving DecidableEq, Repr

/-- The two forms of BAY_READ (R125). -/
inductive BayQuery where
  | bay (b : Nat)
  | bank
  deriving DecidableEq, Repr

/-- The commands of the block, one for each row of the table, in the table's order. -/
inductive Instr where
  /-- DEVICE_RESET (R179). -/
  | deviceReset
  /-- PROFILE_LOAD (R186); `acknowledged`: the store acknowledged every transfer of the read. -/
  | profileLoad (acknowledged : Bool)
  /-- BAD_FRAME (R162). -/
  | badFrame (p : Port) (cause : BadFrame)
  /-- FRAME_REFUSED (R165): a good frame with these bytes 2, 3 and 4 on. -/
  | frameRefused (p : Port) (kind tag : Nat) (body : List Byte)
  /-- ANSWER_SEND (R167). -/
  | answerSend (l : Line)
  /-- ANSWER_COLLISION (R167); `sent`: the bytes read back unchanged before the one that differs. -/
  | answerCollision (l : Line) (sent : Nat)
  /-- ANSWER_READ (R176); `clocked`: the bytes clocked out after the state byte. -/
  | answerRead (clocked : Nat)
  | caseSeen (l : Line) (title number : Nat)
  | cased (l : Line) (volume : Nat)
  | caseSpoiled (l : Line) (volume : Nat)
  | bayClosed (l : Line) (bay : Nat)
  | bayCleared (l : Line) (bay : Nat)
  | bayFault (l : Line) (bay : Nat)
  | jacketSeen (l : Line) (title unit : Nat)
  | delivered (l : Line) (volume : Nat)
  | caseSeenApplied
  | casedApplied
  | caseSpoiledApplied
  | bayClosedApplied
  | bayClearedApplied
  | bayFaultApplied
  | jacketSeenApplied
  | deliveredApplied
  | entry (l : Line) (serial raw : Nat)
  | caseCall (l : Line)
  | nextMove (l : Line)
  | gauge (l : Line) (tagRead title number raw : Nat)
  | foldCall (l : Line)
  | holdLimitExpiry (l : Line)
  | dwellExpiry (b : Fin 16)
  | overdwellExpiry (b : Fin 16)
  | idleTimerExpiry
  | recoveryPeriodEnd
  | glueReadyChange (asserted : Bool)
  | platenLowChange (asserted : Bool)
  | platenColdChange (asserted : Bool)
  | guardOpenChange (asserted : Bool)
  | titleLoad (code : Nat) (geometry : GeometryGroup) (process : ProcessGroup)
  | titleAmend (code : Nat) (process : Option ProcessGroup) (geometry : Option GeometryGroup)
  | titleHold (code : Nat)
  | titleFree (code : Nat)
  | titleRetire (code : Nat)
  | titlePurge
  | titleRead (code : Nat)
  | missRead
  | rangeSet (index base sizeClass code unitBase : Nat)
  | rangeClear (index : Nat)
  | rangeRead (q : RangeQuery)
  | volumeRead (volume : Nat)
  | volumeFind (serial : Nat)
  | volumeWriteoff (volume : Nat)
  | bayService (bay direction : Nat)
  | bayRead (q : BayQuery)
  | paceSet (pace : Nat)
  | paceRelease
  | statusRead
  | noticeEnable (mask : Nat)
  | noticeClear (mask : Nat)
  | noticeRead
  | profileSet (sectionNo : Nat) (fields : List Byte)
  | profileRead (sectionNo : Nat)
  | profileSave
  | profileSaveDone
  /-- PROFILE_SAVE_FAILED (R188); `acknowledged`: the bytes the store acknowledged before the failing one. -/
  | profileSaveFailed (acknowledged : Nat)
  | lineClear
  deriving DecidableEq, Repr

end Sys2Proof
end

