-- ==== Sys2Proof/Machine/State.lean ====
section
/-! DEFINITION. The state of the part as plain data: every record, list, latch, timer and slot the spec gives it,
and the queue of waiting commands. INVENTORY.md lists each with its rule. -/

namespace Sys2Proof.Machine

/-! ### Faults and refusals -/

/-- No rule of the spec stops the machine, so the type has no constructor: nothing raises a fault. -/
inductive Fault where
  deriving DecidableEq, Repr

/-- Why a command has no meaning here. -/
inductive Refusal where
  /-- Raised by an arm of `exec` whose row has no meaning yet; safe, since a claim about it cannot be proved. -/
  | notModelled (mnemonic : String)
  deriving DecidableEq, Repr

/-! ### Titles and ranges -/

/-- R87: the marry mode of a title. -/
inductive Marry where | run | unit
  deriving DecidableEq, Repr

/-- R71: the tolerance band of a title. -/
inductive Band where | tight | standard | openBand
  deriving DecidableEq, Repr

/-- R4: the states of a title. -/
inductive TitleState where | dormant | active | retiring
  deriving DecidableEq, Repr

/-- A title record (section 1.2) with the slot that holds it (R1). `retiring` says that a retire is pending (R4). -/
structure Title where
  slot : Nat
  code : Nat
  marry : Marry
  tNom : Nat
  board : Nat
  jacket : Option JacketPart
  band : Band
  dwellBase : Nat
  dwellSlope : Nat
  quota : Nat
  hold : Bool
  retiring : Bool
  volumeCount : Nat
  admitted : Nat
  outJacketed : Nat
  outBare : Nat
  diverted : Nat
  cleared : Nat
  quotaReached : Bool
  deriving DecidableEq, Repr

/-- R25: an entry of the range map. -/
structure RangeEntry where
  enabled : Bool
  base : Nat
  sizeClass : Nat
  code : Nat
  unitBase : Nat
  deriving DecidableEq, Repr

/-! ### Volumes -/

/-- A case tag (title code and case number) or a jacket tag (title code and unit number). -/
structure Tag where
  title : Nat
  number : Nat
  deriving DecidableEq, Repr

/-- R43: the twelve states of a volume. -/
inductive VolumeState where
  | awaitTitle | awaitCase | casing | cased | loading | pressing | pressed | unloading
  | onOutfeed | awaitJacket | jacketing | missing
  deriving DecidableEq, Repr

/-- R71: the fit class. -/
inductive FitClass where | fit | marginal | reject
  deriving DecidableEq, Repr

/-- R55: the divert mark. -/
inductive DivertMark where | misfit | noJaw
  deriving DecidableEq, Repr

/-- R40: the bind part of a volume record. -/
structure BindPart where
  tBlk : Nat
  fit : FitClass
  wBook : Nat
  mark : Option DivertMark
  deriving DecidableEq, Repr

/-- R142, R143: why a book is delivered bare. -/
inductive BareReason where | spineGrowth | flapShort | noJacket
  deriving DecidableEq, Repr

/-- R82: the finish of a volume. -/
inductive Finish where
  | fold (eject f1 f2 f3 f4 : Nat)
  | plain
  | bare (why : BareReason)
  deriving DecidableEq, Repr

/-- A volume record (section 3.2). `number` is the slot that holds it (R37); it is bound when `bound` is present. -/
structure Volume where
  number : Nat
  serial : Nat
  title : Nat
  unit : Nat
  state : VolumeState
  raw : Nat
  caseWaits : Nat
  jacketWaits : Nat
  ungauged : Bool
  overpressed : Bool
  pressFault : Bool
  unverified : Bool
  returned : Bool
  outUngauged : Bool
  bound : Option BindPart
  caseTag : Option Tag
  bay : Option Nat
  dwell : Option Nat
  tOut : Option Nat
  finish : Option Finish
  deriving DecidableEq, Repr

/-- R83, R135: an entry of the case window or of the jacket window. -/
structure WindowEntry where
  tag : Tag
  double : Bool
  deriving DecidableEq, Repr

/-! ### The press -/

/-- R104: the states of a bay. -/
inductive BayState where
  | vacant | reserved | closed | done | emptying | faulted | outOfService
  deriving DecidableEq, Repr

/-- R104: a bay record; `overdwellDue` is the time at which its overdwell timer expires while it runs (R115). -/
structure Bay where
  state : BayState
  volume : Option Nat
  vacated : Option Nat
  closedAt : Option Nat
  expiry : Option Nat
  overdwellDue : Option Nat
  faultPending : Bool
  servicePending : Bool
  deriving DecidableEq, Repr

/-! ### Pace -/

/-- The five pace classes (file 08). -/
inductive Pace where | stop | hold | crawl | ease | run
  deriving DecidableEq, Repr

/-- R154: the recovery cycle with the end of its period. -/
inductive Recovery where
  | idle
  | slow (ends : Nat)
  | fast (ends : Nat)
  deriving DecidableEq, Repr

/-- R150: the levels of the four condition lines, `true` for asserted. -/
structure ConditionLines where
  glueReady : Bool
  platenLow : Bool
  platenCold : Bool
  guardOpen : Bool
  deriving DecidableEq, Repr

/-- The pace governor (file 08); `idleDue` is the expiry time of the idle timer while it runs (R155). -/
structure Governor where
  requested : Pace
  effective : Pace
  guardLatch : Bool
  glueLatch : Bool
  stepDown : Pace
  idleDue : Option Nat
  recovery : Recovery
  lines : ConditionLines
  deriving DecidableEq, Repr

/-! ### Line interface -/

/-- R168: a posted report. -/
inductive Report where
  | caseSeen (tag : Tag)
  | cased (volume : Nat)
  | caseSpoiled (volume : Nat)
  | bayClosed (bay : Nat)
  | bayCleared (bay : Nat)
  | bayFault (bay : Nat)
  | jacketSeen (tag : Tag)
  | delivered (volume : Nat)
  deriving DecidableEq, Repr

/-- R168: an entry of the report queue. -/
structure Posted where
  line : Line
  report : Report
  deriving DecidableEq, Repr

/-- The queries that can stand in a slot (R170); an ENTRY is answered at once (R48). A GAUGE keeps its body. -/
inductive Query where
  | caseCall
  | nextMove
  | gauge (tag : Option Tag) (raw : Nat)
  | foldCall
  deriving DecidableEq, Repr

/-- R170: a query taken, with its arrival time and the hold limit in force at its arrival. -/
structure HeldQuery where
  query : Query
  arrival : Nat
  limit : Nat
  deriving DecidableEq, Repr

/-- R170: a held-query slot. -/
inductive Slot where
  | empty
  | behind (h : HeldQuery) (ahead : Nat)
  | held (h : HeldQuery)
  | answered
  deriving DecidableEq, Repr

/-- R172: the answer codes; `admits` is ADMIT. -/
inductive AnswerCode where
  | ok | okClamped | okAligned | accepted | wait | busy | refused
  | admits | divert | take | load | unload | pass | stray | fold | plain | bare
  deriving DecidableEq, Repr

/-- R172: the reasons. -/
inductive Reason where
  | role | form | notFound | duplicate | tableFull | inUse | overlap | badValue | notStopped | state
  | duplicateSerial | unmapped | retiredTitle | noTitle | misfit | noJaw | noCase | pressFault
  | spineGrowth | flapShort | noJacket
  deriving DecidableEq, Repr

/-- An answer (R172): the kind byte it answers, its code, its reason, and the bytes of its fields. -/
structure Answer where
  kind : Nat
  code : AnswerCode
  reason : Option Reason
  fields : List Byte
  deriving DecidableEq, Repr

/-- An answer in an output list (R167); `ofQuery`: the answer of the query in the line's slot. -/
structure OutEntry where
  answer : Answer
  ofQuery : Bool
  deriving DecidableEq, Repr

/-- One station line: its slot, its output list, and the bytes the part last drove on it (log entry 19). -/
structure StationLine where
  slot : Slot
  output : List OutEntry
  driven : List Byte
  deriving DecidableEq, Repr

/-- R175: the supervisor answer slot; `next` is the number of the next part to read. -/
inductive SupervisorSlot where
  | empty
  | working
  | holding (a : Answer) (next : Nat)
  deriving DecidableEq, Repr

/-- The supervisor port: its slot, and the bytes shifted out in the last transaction, less the 0x00 bytes that
follow (log entry 19). -/
structure SupervisorPort where
  slot : SupervisorSlot
  shifted : List Byte
  deriving DecidableEq, Repr

/-! ### Notices and profile -/

/-- The fourteen notice kinds, in the order of their bits (section 10.1). -/
inductive Notice where
  | evicted | retired | quota | divert | bare | overpress | stray | misreport | pace | profile
  | titleMiss | bayFault | tracking | latched
  deriving DecidableEq, Repr

/-- R180: the enables and the flags, bit 0 for EVICTED. -/
structure NoticeUnit where
  enables : BitVec 14
  flags : BitVec 14
  deriving DecidableEq, Repr

/-- R166: the roles of a station line. -/
inductive Role where | none | infeed | caser | shuttle | outfeed | jacketer
  deriving DecidableEq, Repr

/-- R103: the jaw groups. -/
inductive JawGroup where | a | b | c | d
  deriving DecidableEq, Repr

/-- Section 10.3: the range of press thickness of a jaw group. -/
structure JawRange where
  least : Nat
  greatest : Nat
  deriving DecidableEq, Repr

/-- The working profile (section 10.3); an assignment `none` is ABSENT. Times are in the units of the table. -/
structure Profile where
  roles : List Role
  assignment : List (Option JawGroup)
  jaws : List JawRange
  unloadAge : Nat
  overdwell : Nat
  caseSkip : Nat
  jacketSkip : Nat
  holdLimit : Nat
  waitLimit : Nat
  idle1 : Nat
  idle2 : Nat
  cycling : Bool
  fastPeriod : Nat
  slowPeriod : Nat
  glueLatch : Bool
  lowWater : Nat
  highWater : Nat
  deriving DecidableEq, Repr

/-- The default profile (section 10.3). -/
def Profile.default : Profile where
  roles := [.infeed, .caser, .shuttle, .outfeed, .jacketer]
  assignment := List.replicate 4 (some .a) ++ List.replicate 4 (some .b) ++ List.replicate 4 (some .c)
    ++ List.replicate 4 (some .d)
  jaws := [⟨30, 160⟩, ⟨140, 320⟩, ⟨300, 620⟩, ⟨600, 1130⟩]
  unloadAge := 30
  overdwell := 30
  caseSkip := 3
  jacketSkip := 1
  holdLimit := 200
  waitLimit := 16
  idle1 := 20
  idle2 := 60
  cycling := false
  fastPeriod := 8
  slowPeriod := 2
  glueLatch := true
  lowWater := 2
  highWater := 56

/-- R186: the load outcome. -/
inductive LoadOutcome where | stored | defaults | noStore
  deriving DecidableEq, Repr

/-- R188: the result of the last save. -/
inductive SaveResult where | none | done | storeFailed
  deriving DecidableEq, Repr

/-- R188: the save state. WRITING carries the marker that the store held before the save, which a failure at the
first stage leaves to the store (log entry 10). -/
inductive SaveState where
  | idle
  | writing (earlier : Byte)
  deriving DecidableEq, Repr

/-- Section 10.3: the status the profile block keeps. -/
structure ProfileStatus where
  loadOutcome : LoadOutcome
  defaulted : Nat
  save : SaveState
  lastSave : SaveResult
  deriving DecidableEq, Repr

/-- R186: the profile store, a marker and the 56 bytes of the saved copy. -/
structure Store where
  marker : Byte
  copy : List Byte
  deriving DecidableEq, Repr

/-- R179: whether the profile is still being loaded, with the receivers discarding every byte. -/
inductive Phase where | loading | running
  deriving DecidableEq, Repr

/-! ### The state -/

/-- The state of the part. `titles` stands in the order of the recency list (R6), most recent first; `volumes` in
the admission order (R38), oldest first; `postPress` holds the volume numbers of the post-press sequence (R47).
`pending` is the queue of waiting commands and `draws` counts the free values used (log entry 9). -/
structure State where
  phase : Phase
  clock : Nat
  titles : List Title
  missList : List Nat
  ranges : List RangeEntry
  volumes : List Volume
  postPress : List Nat
  caseWindow : List WindowEntry
  jacketWindow : List WindowEntry
  bays : List Bay
  governor : Governor
  reports : List Posted
  stations : List StationLine
  supervisor : SupervisorPort
  notices : NoticeUnit
  profile : Profile
  profileStatus : ProfileStatus
  store : Store
  draws : Nat
  pending : List Instr
  deriving DecidableEq, Repr

/-- R36: a range entry after device reset. -/
def RangeEntry.cleared : RangeEntry := ⟨false, 0, 0, 0, 0⟩

/-- R127: a bay after device reset. -/
def Bay.reset : Bay := ⟨.vacant, none, some 0, none, none, none, false, false⟩

/-- R150: no condition holds: GLUE_READY asserted, the other lines deasserted. -/
def ConditionLines.clear : ConditionLines := ⟨true, false, false, false⟩

/-- R160: the governor after device reset (the levels of the lines: log entry 7). -/
def Governor.reset : Governor := ⟨.stop, .stop, false, false, .run, none, .idle, .clear⟩

/-- R179: a station line after device reset. -/
def StationLine.reset : StationLine := ⟨.empty, [], []⟩

/-- The machine right after device reset, its profile not yet loaded (R23, R36, R64, R102, R127, R146, R160, R179,
R185, R186; log entries 5 to 8 for what the spec leaves open). -/
def State.reset : State where
  phase := .loading
  clock := 0
  titles := []
  missList := []
  ranges := List.replicate Config.rangeEntries RangeEntry.cleared
  volumes := []
  postPress := []
  caseWindow := []
  jacketWindow := []
  bays := List.replicate Config.bayCount Bay.reset
  governor := Governor.reset
  reports := []
  stations := List.replicate 5 StationLine.reset
  supervisor := ⟨.empty, []⟩
  notices := ⟨0#14, 0#14⟩
  profile := Profile.default
  profileStatus := ⟨.defaults, 43, .idle, .none⟩
  store := ⟨0x00, List.replicate 56 0⟩
  draws := 0
  pending := []

end Sys2Proof.Machine
end

