-- ==== Sys2Proof/Machine/Operands.lean ====
section
/-! DEFINITION. What the operands of a message mean: the kind bytes and their owners (file 09, section 9.2), the
codes of the fields (R163), and the form and range checks of the owning rules. -/

namespace Sys2Proof.Machine

/-- Section 9.2: the kind byte. -/
def kindByte : Kind → Nat
  | .caseSeen => 0x10 | .cased => 0x11 | .caseSpoiled => 0x12 | .bayClosed => 0x13 | .bayCleared => 0x14
  | .bayFault => 0x15 | .jacketSeen => 0x16 | .delivered => 0x17
  | .entry => 0x20 | .caseCall => 0x21 | .nextMove => 0x22 | .gauge => 0x23 | .foldCall => 0x24
  | .titleLoad => 0x40 | .titleAmend => 0x41 | .titleHold => 0x42 | .titleFree => 0x43 | .titleRetire => 0x44
  | .titlePurge => 0x45 | .titleRead => 0x46 | .missRead => 0x47
  | .rangeSet => 0x48 | .rangeClear => 0x49 | .rangeRead => 0x4A
  | .volumeRead => 0x4B | .volumeFind => 0x4C | .volumeWriteoff => 0x4D
  | .bayService => 0x4E | .bayRead => 0x4F
  | .paceSet => 0x50 | .paceRelease => 0x51 | .statusRead => 0x52
  | .noticeEnable => 0x53 | .noticeClear => 0x54 | .noticeRead => 0x55
  | .profileSet => 0x56 | .profileRead => 0x57 | .profileSave => 0x58 | .lineClear => 0x59

/-- Section 9.2: every kind of the two tables. -/
def allKinds : List Kind :=
  [.caseSeen, .cased, .caseSpoiled, .bayClosed, .bayCleared, .bayFault, .jacketSeen, .delivered, .entry, .caseCall,
   .nextMove, .gauge, .foldCall, .titleLoad, .titleAmend, .titleHold, .titleFree, .titleRetire, .titlePurge,
   .titleRead, .missRead, .rangeSet, .rangeClear, .rangeRead, .volumeRead, .volumeFind, .volumeWriteoff, .bayService,
   .bayRead, .paceSet, .paceRelease, .statusRead, .noticeEnable, .noticeClear, .noticeRead, .profileSet, .profileRead,
   .profileSave, .lineClear]

/-- R165 step 1: the kind a byte names, if it names one. -/
def kindOfByte (n : Nat) : Option Kind := allKinds.find? fun k => kindByte k == n

/-- R166: the role that owns a station kind; `none` for the kinds of the supervisor port. -/
def kindOwner : Kind → Option Role
  | .caseSeen | .cased | .caseSpoiled | .caseCall => some .caser
  | .bayClosed | .bayCleared | .bayFault | .nextMove => some .shuttle
  | .jacketSeen | .delivered | .foldCall => some .jacketer
  | .entry => some .infeed
  | .gauge => some .outfeed
  | _ => none

/-- R161: the port tag of a port. -/
def portTag : Port → Nat
  | .station l => l.val + 1
  | .supervisor => 6

/-- R163: the marry mode a byte names. -/
def marryOfByte : Nat → Option Marry
  | 0 => some .run
  | 1 => some .unit
  | _ => none

/-- R163, R8: the band a byte names; any other byte is clamped to STANDARD. -/
def bandOfByte : Nat → Band
  | 0 => .tight
  | 1 => .standard
  | 2 => .openBand
  | _ => .standard

/-- Section 9.2: the pace a PACE_SET byte names. -/
def paceOfByte : Nat → Option Pace
  | 0 => some .stop
  | 1 => some .hold
  | 2 => some .crawl
  | 3 => some .ease
  | 4 => some .run
  | _ => none

/-- R84: the form check of a case tag. -/
def goodCaseTag (title number : Nat) : Bool := title != 0 && number ≤ Config.caseNumberMax

/-- R136: the form check of a jacket tag. -/
def goodJacketTag (title : Nat) : Bool := title != 0

/-- R99, R100, R145: the form check of a volume number. -/
def goodVolumeNumber (v : Nat) : Bool := v < Config.volumeSlots

/-- R113, R116, R117: the form check of a bay number. -/
def goodBayNumber (b : Nat) : Bool := b < Config.bayCount

/-- R48, R77: a raw reading in range. -/
def goodRaw (r : Nat) : Bool := r ≤ Config.rawMax

/-- R128: the form check of a GAUGE body. -/
def goodGauge (tagRead title number raw : Nat) : Bool :=
  goodRaw raw && (tagRead == 0 || (tagRead == 1 && goodCaseTag title number))

/-- R128: the case tag a GAUGE carries, when it read one. -/
def gaugeTag (tagRead title number : Nat) : Option Tag := if tagRead = 1 then some ⟨title, number⟩ else none

/-- Section 1.2: a value of a title code. -/
def goodTitleCode (c : Nat) : Bool := c != 0 && c ≤ Config.codeMax

/-- Section 1.2: the ranges of the fields of a jacket part. -/
def jacketInRange (j : JacketPart) : Bool :=
  2000 ≤ j.sheet && j.sheet ≤ 9000 && j.centre ≤ j.sheet && 800 ≤ j.panel && j.panel ≤ 3000 && 20 ≤ j.spine
    && j.spine ≤ 900 && j.wrap ≤ 50 && j.growth ≤ 100 && 400 ≤ j.minFlap && j.minFlap ≤ 1500

/-- R7 step 4: every geometry field is in its range (section 1.2). -/
def geometryInRange (g : GeometryGroup) : Bool :=
  (marryOfByte g.marry).isSome && 20 ≤ g.tNom && g.tNom ≤ 800 && 10 ≤ g.board && g.board ≤ 50
    && (g.jacket.map jacketInRange).getD true

/-- R8: whether storing the process group clamps a value. -/
def processClamped (p : ProcessGroup) : Bool := 600 < p.dwellBase || 50 < p.dwellSlope || 2 < p.band

/-- R182: a mask with bit 14 or bit 15 set names no kind. -/
def goodMask (m : Nat) : Bool := m < 2 ^ 14

/-- R188: a save is WRITING. -/
def ProfileStatus.writing (p : ProfileStatus) : Bool :=
  match p.save with
  | .idle => false
  | .writing _ => true

/-! ### The codes of fields (R163) -/

def marryCode : Marry → Nat | .run => 0 | .unit => 1
def bandCode : Band → Nat | .tight => 0 | .standard => 1 | .openBand => 2
def titleStateCode : TitleState → Nat | .dormant => 0 | .active => 1 | .retiring => 2
def volumeStateCode : VolumeState → Nat
  | .awaitTitle => 0 | .awaitCase => 1 | .casing => 2 | .cased => 3 | .loading => 4 | .pressing => 5 | .pressed => 6
  | .unloading => 7 | .onOutfeed => 8 | .awaitJacket => 9 | .jacketing => 10 | .missing => 11
def fitCode : FitClass → Nat | .fit => 0 | .marginal => 1 | .reject => 2
def bayStateCode : BayState → Nat
  | .vacant => 0 | .reserved => 1 | .closed => 2 | .done => 3 | .emptying => 4 | .faulted => 5 | .outOfService => 6
def groupCode : Option JawGroup → Nat | none => 0 | some .a => 1 | some .b => 2 | some .c => 3 | some .d => 4
def paceCode : Pace → Nat | .stop => 0 | .hold => 1 | .crawl => 2 | .ease => 3 | .run => 4
def recoveryCode : Recovery → Nat | .idle => 0 | .slow _ => 1 | .fast _ => 2
def loadOutcomeCode : LoadOutcome → Nat | .stored => 0 | .defaults => 1 | .noStore => 2
def saveStateCode : SaveState → Nat | .idle => 0 | .writing _ => 1
def saveResultCode : SaveResult → Nat | .none => 0 | .done => 1 | .storeFailed => 2
def roleCode : Role → Nat | .none => 0 | .infeed => 1 | .caser => 2 | .shuttle => 3 | .outfeed => 4 | .jacketer => 5

end Sys2Proof.Machine
end

