-- ==== Sys2Proof/WellFormed.lean ====
section
/-! DEFINITION. The well-formed commands: every operand fits the bytes that carry it (R161, section 9.2), and an
event names something its port can do. Semantic ranges (a volume number above 63, a bay above 15) are not checked
here: the rules answer those. -/

namespace Sys2Proof

/-- The number fits `bytes` little-endian bytes (R161). -/
def fits (bytes n : Nat) : Bool := n < 256 ^ bytes

def JacketPart.wellFormed (j : JacketPart) : Bool :=
  fits 2 j.sheet && fits 2 j.centre && fits 2 j.panel && fits 2 j.spine && fits 1 j.wrap && fits 1 j.growth
    && fits 2 j.minFlap

def ProcessGroup.wellFormed (p : ProcessGroup) : Bool :=
  fits 1 p.band && fits 2 p.dwellBase && fits 1 p.dwellSlope && fits 2 p.quota

def GeometryGroup.wellFormed (g : GeometryGroup) : Bool :=
  fits 1 g.marry && fits 2 g.tNom && fits 1 g.board && (g.jacket.map JacketPart.wellFormed).getD true

/-- R162: which causes of a bad frame a port knows. -/
def BadFrame.possible : Port → BadFrame → Bool
  | .station _, .selectRose => false
  | .supervisor, .framingFault => false
  | .supervisor, .byteGap => false
  | _, _ => true

def RangeQuery.wellFormed : RangeQuery → Bool
  | .index i => fits 1 i
  | .serial n => fits 4 n

def BayQuery.wellFormed : BayQuery → Bool
  | .bay b => fits 1 b
  | .bank => true

/-- R164: the bytes of a PROFILE_SET after its section byte. -/
def sectionLength : Nat → Nat
  | 0 => 5
  | 1 => 36
  | 2 => 5
  | 3 => 10
  | _ => 0

/-- Every operand of the command fits the bytes its frame gives it, and every event is one its port knows. -/
def Instr.wellFormed : Instr → Bool
  | .deviceReset => true
  | .profileLoad _ => true
  | .badFrame p c => c.possible p
  | .frameRefused _ k t b => fits 1 k && fits 1 t && decide (1 ≤ b.length) && decide (b.length ≤ 38)
  | .answerSend _ => true
  | .answerCollision _ _ => true
  | .answerRead _ => true
  | .caseSeen _ t n => fits 3 t && fits 3 n
  | .cased _ v => fits 1 v
  | .caseSpoiled _ v => fits 1 v
  | .bayClosed _ b => fits 1 b
  | .bayCleared _ b => fits 1 b
  | .bayFault _ b => fits 1 b
  | .jacketSeen _ t n => fits 3 t && fits 3 n
  | .delivered _ v => fits 1 v
  | .caseSeenApplied => true
  | .casedApplied => true
  | .caseSpoiledApplied => true
  | .bayClosedApplied => true
  | .bayClearedApplied => true
  | .bayFaultApplied => true
  | .jacketSeenApplied => true
  | .deliveredApplied => true
  | .entry _ n r => fits 4 n && fits 2 r
  | .caseCall _ => true
  | .nextMove _ => true
  | .gauge _ g t n r => fits 1 g && fits 3 t && fits 3 n && fits 2 r
  | .foldCall _ => true
  | .holdLimitExpiry _ => true
  | .dwellExpiry _ => true
  | .overdwellExpiry _ => true
  | .idleTimerExpiry => true
  | .recoveryPeriodEnd => true
  | .glueReadyChange _ => true
  | .platenLowChange _ => true
  | .platenColdChange _ => true
  | .guardOpenChange _ => true
  | .titleLoad c g p => fits 3 c && g.wellFormed && p.wellFormed
  | .titleAmend c p g =>
    fits 3 c && (p.map ProcessGroup.wellFormed).getD true && (g.map GeometryGroup.wellFormed).getD true
      && (p.isSome || g.isSome)
  | .titleHold c => fits 3 c
  | .titleFree c => fits 3 c
  | .titleRetire c => fits 3 c
  | .titlePurge => true
  | .titleRead c => fits 3 c
  | .missRead => true
  | .rangeSet i b k c u => fits 1 i && fits 4 b && fits 1 k && fits 3 c && fits 3 u
  | .rangeClear i => fits 1 i
  | .rangeRead q => q.wellFormed
  | .volumeRead v => fits 1 v
  | .volumeFind n => fits 4 n
  | .volumeWriteoff v => fits 1 v
  | .bayService b d => fits 1 b && fits 1 d
  | .bayRead q => q.wellFormed
  | .paceSet p => fits 1 p
  | .paceRelease => true
  | .statusRead => true
  | .noticeEnable m => fits 2 m
  | .noticeClear m => fits 2 m
  | .noticeRead => true
  | .profileSet n b => decide (n ≤ 3) && decide (b.length = sectionLength n)
  | .profileRead n => fits 1 n
  | .profileSave => true
  | .profileSaveDone => true
  | .profileSaveFailed n => decide (n ≤ 57)
  | .lineClear => true

end Sys2Proof
end

