-- ==== Sys2Proof/Decode.lean ====
section
/-! DEFINITION. Decoding. The opcode table gives no row any bits, so `decodeTableWord` reads no command from a word.
The frames of file 09 are decoded here too: the body of each kind (section 9.2, R164), the bytes of each message, and
the frames that a receiver finds in a stream of bytes (R162). -/

namespace Sys2Proof

/-- The command a word spells by the table's bits; no row of the table has any. -/
def decodeTableWord (_nbits _w : Nat) : Option Instr := none

open Machine

/-! ### From a body to a command (section 9.2, R164) -/

/-- R164: the jacket part that a jacket flag and the bytes after it give; `none` when the length or the flag is
wrong. -/
def readJacket (flag : Nat) (rest : List Byte) : Option (Option JacketPart) :=
  if flag = 0 then (if rest.isEmpty then some none else none)
  else if flag = 1 then
    match cut [2, 2, 2, 2, 1, 1, 2] rest with
    | some [w, x, p, sp, a, g, f] => some (some ⟨w, x, p, sp, a, g, f⟩)
    | _ => none
  else none

/-- R164: the body of a TITLE_LOAD. -/
def readTitleLoad (body : List Byte) : Option Instr :=
  match cut [3, 1, 2, 1, 1, 2, 1, 2, 1] (body.take 14) with
  | some [c, m, t, b, band, d, k, q, flag] =>
    (readJacket flag (body.drop 14)).map fun j => .titleLoad c ⟨m, t, b, j⟩ ⟨band, d, k, q⟩
  | _ => none

/-- Section 9.2: the process group of a TITLE_AMEND. -/
def readProcess (bytes : List Byte) : Option ProcessGroup :=
  match cut [1, 2, 1, 2] bytes with
  | some [band, d, k, q] => some ⟨band, d, k, q⟩
  | _ => none

/-- Section 9.2: the geometry group of a TITLE_AMEND. -/
def readGeometry (bytes : List Byte) : Option GeometryGroup :=
  match cut [1, 2, 1, 1] (bytes.take 5) with
  | some [m, t, b, flag] => (readJacket flag (bytes.drop 5)).map fun j => ⟨m, t, b, j⟩
  | _ => none

/-- R164: the body of a TITLE_AMEND, the process group before the geometry group. -/
def readTitleAmend (body : List Byte) : Option Instr :=
  match cut [3, 1] (body.take 4) with
  | some [c, 1] => (readProcess (body.drop 4)).map fun p => .titleAmend c (some p) none
  | some [c, 2] => (readGeometry (body.drop 4)).map fun g => .titleAmend c none (some g)
  | some [c, 3] =>
    match readProcess ((body.drop 4).take 6), readGeometry (body.drop 10) with
    | some p, some g => some (.titleAmend c (some p) (some g))
    | _, _ => none
  | _ => none

/-- R164: the body of a RANGE_READ. -/
def readRangeRead (body : List Byte) : Option Instr :=
  match cut [1] (body.take 1) with
  | some [0] => match cut [1] (body.drop 1) with
    | some [i] => some (.rangeRead (.index i))
    | _ => none
  | some [1] => match cut [4] (body.drop 1) with
    | some [n] => some (.rangeRead (.serial n))
    | _ => none
  | _ => none

/-- R164: the body of a BAY_READ. -/
def readBayRead (body : List Byte) : Option Instr :=
  match cut [1] (body.take 1) with
  | some [0] => match cut [1] (body.drop 1) with
    | some [b] => some (.bayRead (.bay b))
    | _ => none
  | some [1] => if (body.drop 1).isEmpty then some (.bayRead .bank) else none
  | _ => none

/-- R164: the body of a PROFILE_SET. -/
def readProfileSet (body : List Byte) : Option Instr :=
  match cut [1] (body.take 1) with
  | some [n] =>
    if n ≤ 3 ∧ (body.drop 1).length = sectionLength n then some (.profileSet n (body.drop 1)) else none
  | _ => none

/-- A body of one number. -/
def readOne (width : Nat) (body : List Byte) (f : Nat → Instr) : Option Instr :=
  match cut [width] body with
  | some [n] => some (f n)
  | _ => none

/-- A body of two numbers. -/
def readTwo (w1 w2 : Nat) (body : List Byte) (f : Nat → Nat → Instr) : Option Instr :=
  match cut [w1, w2] body with
  | some [a, b] => some (f a b)
  | _ => none

/-- R161: a pad body, one byte that is not examined. -/
def readPad (body : List Byte) (i : Instr) : Option Instr := if body.length = 1 then some i else none

/-- The command of a station kind with this body on a line. -/
def stationCommand (l : Line) (k : Kind) (body : List Byte) : Option Instr :=
  match k with
  | .caseSeen => readTwo 3 3 body (.caseSeen l)
  | .cased => readOne 1 body (.cased l)
  | .caseSpoiled => readOne 1 body (.caseSpoiled l)
  | .bayClosed => readOne 1 body (.bayClosed l)
  | .bayCleared => readOne 1 body (.bayCleared l)
  | .bayFault => readOne 1 body (.bayFault l)
  | .jacketSeen => readTwo 3 3 body (.jacketSeen l)
  | .delivered => readOne 1 body (.delivered l)
  | .entry => readTwo 4 2 body (.entry l)
  | .caseCall => readPad body (.caseCall l)
  | .nextMove => readPad body (.nextMove l)
  | .gauge =>
    match cut [1, 3, 3, 2] body with
    | some [g, t, n, r] => some (.gauge l g t n r)
    | _ => none
  | .foldCall => readPad body (.foldCall l)
  | _ => none

/-- The command of a supervisor kind with this body. -/
def supervisorCommand (k : Kind) (body : List Byte) : Option Instr :=
  match k with
  | .titleLoad => readTitleLoad body
  | .titleAmend => readTitleAmend body
  | .titleHold => readOne 3 body .titleHold
  | .titleFree => readOne 3 body .titleFree
  | .titleRetire => readOne 3 body .titleRetire
  | .titlePurge => readPad body .titlePurge
  | .titleRead => readOne 3 body .titleRead
  | .missRead => readPad body .missRead
  | .rangeSet =>
    match cut [1, 4, 1, 3, 3] body with
    | some [i, b, k, c, u] => some (.rangeSet i b k c u)
    | _ => none
  | .rangeClear => readOne 1 body .rangeClear
  | .rangeRead => readRangeRead body
  | .volumeRead => readOne 1 body .volumeRead
  | .volumeFind => readOne 4 body .volumeFind
  | .volumeWriteoff => readOne 1 body .volumeWriteoff
  | .bayService => readTwo 1 1 body .bayService
  | .bayRead => readBayRead body
  | .paceSet => readOne 1 body .paceSet
  | .paceRelease => readPad body .paceRelease
  | .statusRead => readPad body .statusRead
  | .noticeEnable => readOne 2 body .noticeEnable
  | .noticeClear => readOne 2 body .noticeClear
  | .noticeRead => readPad body .noticeRead
  | .profileSet => readProfileSet body
  | .profileRead => readOne 1 body .profileRead
  | .profileSave => readPad body .profileSave
  | .lineClear => readPad body .lineClear
  | _ => none

/-- R165 step 4: the command of a kind with this body on a port, when the body length is right. -/
def commandOf (p : Port) (k : Kind) (body : List Byte) : Option Instr :=
  match p with
  | .station l => stationCommand l k body
  | .supervisor => supervisorCommand k body

/-! ### From a command to its message -/

/-- R164: the jacket flag and fields. -/
def jacketMessage : Option JacketPart → List Byte
  | none => le 1 0
  | some j =>
    le 1 1 ++ pack [(2, j.sheet), (2, j.centre), (2, j.panel), (2, j.spine), (1, j.wrap), (1, j.growth),
      (2, j.minFlap)]

def processMessage (p : ProcessGroup) : List Byte :=
  pack [(1, p.band), (2, p.dwellBase), (1, p.dwellSlope), (2, p.quota)]

def geometryMessage (g : GeometryGroup) : List Byte :=
  pack [(1, g.marry), (2, g.tNom), (1, g.board)] ++ jacketMessage g.jacket

/-- R164: the groups byte of a TITLE_AMEND. -/
def groupsByte (p : Option ProcessGroup) (g : Option GeometryGroup) : Nat := p.isSome.toNat + 2 * g.isSome.toNat

/-- A message: the port it is for, its kind and its body. -/
structure Message where
  port : Port
  kind : Kind
  body : List Byte
  deriving DecidableEq, Repr

/-- The message that carries a command, for the commands that are messages (section 9.2). -/
def messageOf : Instr → Option Message
  | .caseSeen l t n => some ⟨.station l, .caseSeen, pack [(3, t), (3, n)]⟩
  | .cased l v => some ⟨.station l, .cased, le 1 v⟩
  | .caseSpoiled l v => some ⟨.station l, .caseSpoiled, le 1 v⟩
  | .bayClosed l b => some ⟨.station l, .bayClosed, le 1 b⟩
  | .bayCleared l b => some ⟨.station l, .bayCleared, le 1 b⟩
  | .bayFault l b => some ⟨.station l, .bayFault, le 1 b⟩
  | .jacketSeen l t n => some ⟨.station l, .jacketSeen, pack [(3, t), (3, n)]⟩
  | .delivered l v => some ⟨.station l, .delivered, le 1 v⟩
  | .entry l n r => some ⟨.station l, .entry, pack [(4, n), (2, r)]⟩
  | .caseCall l => some ⟨.station l, .caseCall, [0]⟩
  | .nextMove l => some ⟨.station l, .nextMove, [0]⟩
  | .gauge l g t n r => some ⟨.station l, .gauge, pack [(1, g), (3, t), (3, n), (2, r)]⟩
  | .foldCall l => some ⟨.station l, .foldCall, [0]⟩
  | .titleLoad c g p =>
    some ⟨.supervisor, .titleLoad,
      pack [(3, c), (1, g.marry), (2, g.tNom), (1, g.board)] ++ processMessage p ++ jacketMessage g.jacket⟩
  | .titleAmend c p g =>
    some ⟨.supervisor, .titleAmend,
      pack [(3, c), (1, groupsByte p g)] ++ (p.map processMessage).getD [] ++ (g.map geometryMessage).getD []⟩
  | .titleHold c => some ⟨.supervisor, .titleHold, le 3 c⟩
  | .titleFree c => some ⟨.supervisor, .titleFree, le 3 c⟩
  | .titleRetire c => some ⟨.supervisor, .titleRetire, le 3 c⟩
  | .titlePurge => some ⟨.supervisor, .titlePurge, [0]⟩
  | .titleRead c => some ⟨.supervisor, .titleRead, le 3 c⟩
  | .missRead => some ⟨.supervisor, .missRead, [0]⟩
  | .rangeSet i b k c u => some ⟨.supervisor, .rangeSet, pack [(1, i), (4, b), (1, k), (3, c), (3, u)]⟩
  | .rangeClear i => some ⟨.supervisor, .rangeClear, le 1 i⟩
  | .rangeRead (.index i) => some ⟨.supervisor, .rangeRead, pack [(1, 0), (1, i)]⟩
  | .rangeRead (.serial n) => some ⟨.supervisor, .rangeRead, pack [(1, 1), (4, n)]⟩
  | .volumeRead v => some ⟨.supervisor, .volumeRead, le 1 v⟩
  | .volumeFind n => some ⟨.supervisor, .volumeFind, le 4 n⟩
  | .volumeWriteoff v => some ⟨.supervisor, .volumeWriteoff, le 1 v⟩
  | .bayService b d => some ⟨.supervisor, .bayService, pack [(1, b), (1, d)]⟩
  | .bayRead (.bay b) => some ⟨.supervisor, .bayRead, pack [(1, 0), (1, b)]⟩
  | .bayRead .bank => some ⟨.supervisor, .bayRead, le 1 1⟩
  | .paceSet p => some ⟨.supervisor, .paceSet, le 1 p⟩
  | .paceRelease => some ⟨.supervisor, .paceRelease, [0]⟩
  | .statusRead => some ⟨.supervisor, .statusRead, [0]⟩
  | .noticeEnable m => some ⟨.supervisor, .noticeEnable, le 2 m⟩
  | .noticeClear m => some ⟨.supervisor, .noticeClear, le 2 m⟩
  | .noticeRead => some ⟨.supervisor, .noticeRead, [0]⟩
  | .profileSet n b => some ⟨.supervisor, .profileSet, le 1 n ++ b⟩
  | .profileRead n => some ⟨.supervisor, .profileRead, le 1 n⟩
  | .profileSave => some ⟨.supervisor, .profileSave, [0]⟩
  | .lineClear => some ⟨.supervisor, .lineClear, [0]⟩
  | .deviceReset => none
  | .profileLoad _ => none
  | .badFrame _ _ => none
  | .frameRefused _ _ _ _ => none
  | .answerSend _ => none
  | .answerCollision _ _ => none
  | .answerRead _ => none
  | .caseSeenApplied => none
  | .casedApplied => none
  | .caseSpoiledApplied => none
  | .bayClosedApplied => none
  | .bayClearedApplied => none
  | .bayFaultApplied => none
  | .jacketSeenApplied => none
  | .deliveredApplied => none
  | .holdLimitExpiry _ => none
  | .dwellExpiry _ => none
  | .overdwellExpiry _ => none
  | .idleTimerExpiry => none
  | .recoveryPeriodEnd => none
  | .glueReadyChange _ => none
  | .platenLowChange _ => none
  | .platenColdChange _ => none
  | .guardOpenChange _ => none
  | .profileSaveDone => none
  | .profileSaveFailed _ => none

/-! ### Frames in a stream of bytes (R161, R162) -/

/-- A good frame: its kind byte, its port tag and its body. -/
structure Frame where
  kind : Nat
  tag : Nat
  body : List Byte
  deriving DecidableEq, Repr

/-- R162: the good frame that begins with these bytes after its start marker, when the length is 3 to 40, the frame is
whole and bytes 1 through the check sum to 0 modulo 256. -/
def goodFrame : List Byte → Option Frame
  | len :: rest =>
    if len.toNat < 3 ∨ 40 < len.toNat ∨ rest.length < len.toNat + 1 then none
    else if (len.toNat + ((rest.take (len.toNat + 1)).map BitVec.toNat).sum) % 256 ≠ 0 then none
    else match rest.take len.toNat with
      | k :: t :: body => some ⟨k.toNat, t.toNat, body⟩
      | _ => none
  | [] => none

/-- R162: the good frames a receiver finds, hunting for 0xA5. After a bad frame the hunt goes on at the byte that
followed its start marker; after a good one, behind its check byte (`skip` bytes are left of it). -/
def huntFrames : Nat → List Byte → List Frame
  | _, [] => []
  | skip + 1, _ :: bs => huntFrames skip bs
  | 0, b :: bs =>
    if b = 0xA5#8 then
      match goodFrame bs with
      | some f => f :: huntFrames (f.body.length + 4) bs
      | none => huntFrames 0 bs
    else huntFrames 0 bs

/-- R165: the command a good frame brings on a port: the message it carries, or FRAME_REFUSED where its kind, its tag
or its body length is wrong for the port. -/
def frameCommand (p : Port) (f : Frame) : Instr :=
  match kindOfByte f.kind with
  | some k =>
    if f.tag = portTag p then (commandOf p k f.body).getD (.frameRefused p f.kind f.tag f.body)
    else .frameRefused p f.kind f.tag f.body
  | none => .frameRefused p f.kind f.tag f.body

/-- R162: the commands that a stream of bytes brings on a station line. -/
def streamCommands (l : Line) (bytes : List Byte) : List Instr := (huntFrames 0 bytes).map (frameCommand (.station l))

/-- R162: what is wrong with the frame whose start marker these bytes follow in a write that brings no good frame. -/
def writeFault : List Byte → BadFrame
  | [] => .selectRose
  | len :: rest =>
    if len.toNat < 3 ∨ 40 < len.toNat then .badLength
    else if rest.length < len.toNat + 1 then .selectRose
    else .badCheck

/-- R176: the command of a write, by the bytes after its first 0xA5. The first good frame is the request, and the
bytes after its check byte are ignored; without a good frame the write is a BAD_FRAME (its cause: log entry 27). DESIGN
CHOICE (log entry 32): where the frame at the first byte is bad, the hunt of R162 goes on inside the write, and a good
frame it finds inside or behind the bad one is the request. -/
def writeCommand (rest : List Byte) : Instr :=
  match huntFrames 0 (0xA5#8 :: rest) with
  | f :: _ => frameCommand .supervisor f
  | [] => .badFrame .supervisor (writeFault rest)

/-- R176: the command that the bytes shifted in during one transaction on the supervisor port bring; the first byte
decides its kind. A transaction with another first byte is ignored: it shifts out the state byte and changes nothing,
as a read does that clocks nothing behind it (log entry 27). -/
def transactionCommand : List Byte → Option Instr
  | [] => none
  | first :: rest =>
    if first = 0xA5#8 then some (writeCommand rest)
    else if first = 0x00#8 then some (.answerRead rest.length)
    else some (.answerRead 0)

end Sys2Proof
end

