-- ==== Sys2Proof/Machine/Answers.lean ====
section
/-! DEFINITION. Answers and their frames (file 09, R161, R172, R173): codes, reasons, the fields of each station
answer, the parts of a long answer, and the bytes of a frame. -/

namespace Sys2Proof.Machine

/-- R172: the answer code's byte. -/
def codeByte : AnswerCode → Nat
  | .ok => 0x00 | .okClamped => 0x01 | .okAligned => 0x02 | .accepted => 0x03 | .wait => 0x04 | .busy => 0x05
  | .refused => 0x06 | .admits => 0x10 | .divert => 0x11 | .take => 0x12 | .load => 0x13 | .unload => 0x14
  | .pass => 0x15 | .stray => 0x16 | .fold => 0x17 | .plain => 0x18 | .bare => 0x19

/-- R172: the reason's byte; 0 when the code has none. -/
def reasonByte : Option Reason → Nat
  | none => 0
  | some .role => 0x01 | some .form => 0x02 | some .notFound => 0x03 | some .duplicate => 0x04
  | some .tableFull => 0x05 | some .inUse => 0x06 | some .overlap => 0x07 | some .badValue => 0x08
  | some .notStopped => 0x09 | some .state => 0x0A | some .duplicateSerial => 0x10 | some .unmapped => 0x11
  | some .retiredTitle => 0x12 | some .noTitle => 0x13 | some .misfit => 0x14 | some .noJaw => 0x15
  | some .noCase => 0x16 | some .pressFault => 0x17 | some .spineGrowth => 0x18 | some .flapShort => 0x19
  | some .noJacket => 0x1A

/-- R161: the check byte of the bytes from the length to the last body byte. -/
def checkByte (core : List Byte) : Byte := BitVec.ofNat 8 (256 - (core.map BitVec.toNat).sum % 256)

/-- R161: a frame of this kind, port tag and body, byte by byte. -/
def frameBytes (kind tag : Nat) (body : List Byte) : List Byte :=
  let core := le 1 (body.length + 2) ++ le 1 kind ++ le 1 tag ++ body
  0xA5#8 :: core ++ [checkByte core]

/-- R172: the fields one frame holds after its header. -/
def fieldsPerPart : Nat := 34

/-- R172: how many parts the answer is made of. -/
def partCount (a : Answer) : Nat := max 1 ((a.fields.length + fieldsPerPart - 1) / fieldsPerPart)

/-- R172: the body of part `i`, its four-byte header first. -/
def partBody (a : Answer) (i : Nat) : List Byte :=
  le 1 a.kind ++ le 1 (codeByte a.code) ++ le 1 (reasonByte a.reason)
    ++ le 1 (i + if i + 1 = partCount a then 128 else 0)
    ++ (a.fields.drop (fieldsPerPart * i)).take fieldsPerPart

/-- R172: the frame of part `i` on the port with this tag. -/
def partFrame (tag : Nat) (a : Answer) (i : Nat) : List Byte := frameBytes 0x80 tag (partBody a i)

/-! ### Answers without a rule of their own -/

/-- R173: a REFUSED answer carries no fields. -/
def refusedAnswer (kind : Nat) (r : Reason) : Answer := ⟨kind, .refused, some r, []⟩
/-- R173: a BUSY answer carries none. -/
def busyAnswer (k : Kind) : Answer := ⟨kindByte k, .busy, none, []⟩
/-- R168: the answer at the posting of a report. -/
def acceptedAnswer (k : Kind) : Answer := ⟨kindByte k, .accepted, none, []⟩
/-- An OK answer with its fields. -/
def okAnswer (k : Kind) (fields : List Byte) : Answer := ⟨kindByte k, .ok, none, fields⟩
/-- A refusal of a request by its owning rule. -/
def refuse (k : Kind) (r : Reason) : Answer := refusedAnswer (kindByte k) r

/-! ### Station answers (first table of section 9.2) -/

/-- R163: a volume number that may be none. -/
def volumeByte (v : Option Nat) : List Byte := le 1 (v.getD 0xFF)

/-- The title code and number of a tag. -/
def tagBytes (t : Tag) : List Byte := le 3 t.title ++ le 3 t.number

def admitAnswer (volume : Nat) : Answer := ⟨kindByte .entry, .admits, none, le 1 volume⟩
def entryWaitAnswer : Answer := ⟨kindByte .entry, .wait, none, []⟩
def entryDivertAnswer (r : Reason) : Answer := ⟨kindByte .entry, .divert, some r, []⟩
def takeAnswer (volume eject : Nat) (tag : Tag) : Answer :=
  ⟨kindByte .caseCall, .take, none, le 1 volume ++ le 1 eject ++ tagBytes tag⟩
def caseDivertAnswer (volume : Nat) (r : Reason) : Answer := ⟨kindByte .caseCall, .divert, some r, le 1 volume⟩
def caseWaitAnswer (volume : Option Nat) : Answer := ⟨kindByte .caseCall, .wait, none, volumeByte volume⟩
def loadAnswer (volume bay dwell : Nat) (tag : Tag) : Answer :=
  ⟨kindByte .nextMove, .load, none, le 1 volume ++ le 1 bay ++ le 2 dwell ++ tagBytes tag⟩
def unloadAnswer (bay volume : Nat) : Answer := ⟨kindByte .nextMove, .unload, none, le 1 bay ++ le 1 volume⟩
def moveWaitAnswer : Answer := ⟨kindByte .nextMove, .wait, none, []⟩
def passAnswer (volume skipped : Nat) (returned : Bool) : Answer :=
  ⟨kindByte .gauge, .pass, none, le 1 volume ++ le 1 skipped ++ flagByte returned⟩
def gaugeDivertAnswer (volume : Nat) : Answer := ⟨kindByte .gauge, .divert, some .pressFault, le 1 volume⟩
def strayAnswer : Answer := ⟨kindByte .gauge, .stray, none, []⟩
def gaugeWaitAnswer : Answer := ⟨kindByte .gauge, .wait, none, []⟩
def foldAnswer (volume eject f1 f2 f3 f4 : Nat) (tag : Tag) : Answer :=
  ⟨kindByte .foldCall, .fold, none,
    le 1 volume ++ le 1 eject ++ le 2 f1 ++ le 2 f2 ++ le 2 f3 ++ le 2 f4 ++ tagBytes tag⟩
def plainAnswer (volume : Nat) : Answer := ⟨kindByte .foldCall, .plain, none, le 1 volume⟩
/-- R142, R143: the reason of a BARE answer. -/
def bareReason : BareReason → Reason
  | .spineGrowth => .spineGrowth
  | .flapShort => .flapShort
  | .noJacket => .noJacket
def bareAnswer (volume eject : Nat) (why : BareReason) : Answer :=
  ⟨kindByte .foldCall, .bare, some (bareReason why), le 1 volume ++ le 1 eject⟩
def foldWaitAnswer (volume : Option Nat) : Answer := ⟨kindByte .foldCall, .wait, none, volumeByte volume⟩

/-- R98: the reason of a divert mark. -/
def markReason : DivertMark → Reason
  | .misfit => .misfit
  | .noJaw => .noJaw

/-- R166, R171: the WAIT, with no volume number, of a query that was never evaluated or lost its role. -/
def bareWaitAnswer : Query → Answer
  | .caseCall => caseWaitAnswer none
  | .nextMove => moveWaitAnswer
  | .gauge _ _ => gaugeWaitAnswer
  | .foldCall => foldWaitAnswer none

end Sys2Proof.Machine
end

