-- ==== Sys2Proof/Machine/Flags.lean ====
section
/-! DEFINITION. The notice unit (file 10, R180 to R184): the bit of each kind, raising an event, the level
conditions and the moments that set their flags, and the ATTENTION output. -/

namespace Sys2Proof.Machine

/-- Section 10.1: the bit of a notice kind. -/
def noticeBit : Notice → Nat
  | .evicted => 0 | .retired => 1 | .quota => 2 | .divert => 3 | .bare => 4 | .overpress => 5 | .stray => 6
  | .misreport => 7 | .pace => 8 | .profile => 9 | .titleMiss => 10 | .bayFault => 11 | .tracking => 12 | .latched => 13

/-- The mask with one kind's bit set. -/
def noticeMask (k : Notice) : BitVec 14 := 1#14 <<< noticeBit k

/-- R180, R181: a kind reaches the notice unit; its flag is set when its enable is. -/
def State.raise (k : Notice) (s : State) : State :=
  { s with notices := { s.notices with flags := s.notices.flags ||| (s.notices.enables &&& noticeMask k) } }

/-- R181: a level condition became true where it was false before (`was`). -/
def State.levelRises (k : Notice) (was : Bool) (s : State) : State := if was then s else s.raise k

/-- R121: at least one bay is FAULTED. -/
def State.anyFaulted (s : State) : Bool := s.bays.any fun b => b.state == .faulted

/-- R44: at least one volume is MISSING. -/
def State.anyMissing (s : State) : Bool := s.volumes.any fun v => v.state == .missing

/-- R151: at least one latch stands. -/
def State.anyLatch (s : State) : Bool := s.governor.guardLatch || s.governor.glueLatch

/-- R181: the level conditions as a mask over the kinds, bits 10 to 13. -/
def State.conditions (s : State) : BitVec 14 :=
  (if s.missList.isEmpty then 0 else noticeMask .titleMiss)
    ||| (if s.anyFaulted then noticeMask .bayFault else 0)
    ||| (if s.anyMissing then noticeMask .tracking else 0)
    ||| (if s.anyLatch then noticeMask .latched else 0)

/-- R184: the ATTENTION output. -/
def State.attention (s : State) : Bool := s.notices.enables &&& s.notices.flags != 0

/-- R184: the present truth of TITLE_MISS, BAY_FAULT, TRACKING and LATCHED in bits 0 to 3. -/
def State.conditionByte (s : State) : List Byte :=
  setByte [!s.missList.isEmpty, s.anyFaulted, s.anyMissing, s.anyLatch]

/-- R182, R183: the flags of enabled level kinds whose condition is true are set. -/
def State.flagLevels (s : State) (flags : BitVec 14) : BitVec 14 := flags ||| (s.notices.enables &&& s.conditions)

end Sys2Proof.Machine
end

