-- ==== Sys2Proof/Machine/Gauge.lean ====
section
/-! DEFINITION. The gauge arithmetic (file 04, R66 to R82): six stages over integers, with no state of its own. -/

namespace Sys2Proof.Machine

/-- Conventions of file 00, R66: the quotient rounded half-even. -/
def roundHalfEven (x n : Nat) : Nat :=
  let q := x / n
  let r := x % n
  if n < 2 * r || (2 * r == n && q % 2 == 1) then q + 1 else q

/-- R70, R78: the two failed readings. -/
def failedReading (raw : Nat) : Bool := raw == 0 || raw == 2047

/-- R69, R77: a good reading converted to tenths of a millimetre. -/
def convertReading (raw : Nat) : Nat := max 1 (roundHalfEven raw 2)

/-- Stages 1 and 5: a reading converted, or the value held in place of a failed one (R69, R70, R77, R78). -/
def thickness (raw held : Nat) : Nat := if failedReading raw then held else convertReading raw

/-- R71: the greatest difference that is FIT under a band. -/
def fitLimit : Band → Nat | .tight => 3 | .standard => 6 | .openBand => 10
/-- R71: the greatest difference that is MARGINAL under a band. -/
def hardLimit : Band → Nat | .tight => 8 | .standard => 15 | .openBand => 25

/-- The magnitude of the difference of two numbers. -/
def distance (a b : Nat) : Nat := (a - b) + (b - a)

/-- Stage 2, R71: the fit class of a block thickness. -/
def fitClass (band : Band) (tBlk tNom : Nat) : FitClass :=
  if distance tBlk tNom ≤ fitLimit band then .fit
  else if distance tBlk tNom ≤ hardLimit band then .marginal
  else .reject

/-- Stage 3, R73: the press thickness. -/
def pressThickness (tBlk board : Nat) : Nat := tBlk + 2 * board

/-- R74: the dwell before correction. -/
def dwellRaw (base slope tBlk : Nat) : Nat := base + roundHalfEven (slope * tBlk) 10

/-- R75: the platen correction. -/
def dwellCorrected (platenLow : Bool) (d : Nat) : Nat := if platenLow then roundHalfEven (d * 5) 4 else d

/-- R76: the clamp, made after the correction. -/
def dwellClamped (d : Nat) : Nat := min 900 (max 20 d)

/-- Stage 4, R74 to R76: the dwell of a volume at its LOAD answer. -/
def dwellOf (base slope tBlk : Nat) (platenLow : Bool) : Nat :=
  dwellClamped (dwellCorrected platenLow (dwellRaw base slope tBlk))

/-- R80: the back spine fold for a spine fold spacing; positions are signed. -/
def foldF2 (j : JacketPart) (spacing : Nat) : Int := (j.centre : Int) - (spacing / 2 : Nat)
def foldF3 (j : JacketPart) (spacing : Nat) : Int := foldF2 j spacing + spacing
def foldF1 (j : JacketPart) (spacing : Nat) : Int := foldF2 j spacing - j.panel
def foldF4 (j : JacketPart) (spacing : Nat) : Int := foldF3 j spacing + j.panel

/-- R81: both flaps are at least the minimum flap. -/
def flapsHold (j : JacketPart) (spacing : Nat) : Bool :=
  (j.minFlap : Int) ≤ foldF1 j spacing && (j.minFlap : Int) ≤ (j.sheet : Int) - foldF4 j spacing

/-- The outcome of a fold plan (R79 to R81). -/
inductive FoldPlan where
  | passes (f1 f2 f3 f4 : Nat)
  | fails (why : BareReason)
  deriving DecidableEq, Repr

/-- Stage 6, R79 to R81: the fold plan of a volume, the growth check before the flap check. -/
def foldPlan (j : JacketPart) (tOut : Nat) : FoldPlan :=
  let spacing := tOut + j.wrap
  if j.growth < distance spacing j.spine then .fails .spineGrowth
  else if flapsHold j spacing then
    .passes (foldF1 j spacing).toNat (foldF2 j spacing).toNat (foldF3 j spacing).toNat (foldF4 j spacing).toNat
  else .fails .flapShort

/-- R9: the nominal fold plan, with the spine fold spacing equal to the printed spine, passes. -/
def nominalPlanPasses (g : GeometryGroup) : Bool :=
  match g.jacket with
  | none => true
  | some j => flapsHold j j.spine

end Sys2Proof.Machine
end

