-- ==== Sys2Proof/Machine/Ops.lean ====
section
/-! DEFINITION. The shared operations over the records of the part: titles, range lookup, volumes and their two
sequences, bays, and the pace. Every command is built from these. -/

namespace Sys2Proof.Machine

/-! ### The clock -/

/-- Log entry 3: an event that stands for a timer's expiry tells that the clock has reached its time. -/
def State.clockReaches (t : Nat) (s : State) : State := { s with clock := max s.clock t }

/-! ### Pace (file 08) -/

/-- R147: the rank of a pace class. -/
def paceRank : Pace → Nat | .stop => 1 | .hold => 2 | .crawl => 3 | .ease => 4 | .run => 5

/-- R147: the lower of two classes. -/
def lowerPace (a b : Pace) : Pace := if paceRank a ≤ paceRank b then a else b

/-- R148: the code on the pace lines, line 0 in bit 0. -/
def paceLineCode : Pace → Nat | .stop => 0b000 | .hold => 0b001 | .crawl => 0b011 | .ease => 0b111 | .run => 0b110

/-- R148: the three pace lines. -/
def State.paceLines (s : State) : BitVec 3 := BitVec.ofNat 3 (paceLineCode s.governor.effective)

/-- R106: the vacant count. -/
def State.vacantCount (s : State) : Nat :=
  ((s.bays.zip s.profile.assignment).filter fun p => p.1.state == .vacant && p.2.isSome).length

/-- R37: the fill of the volume table. -/
def State.fill (s : State) : Nat := s.volumes.length

/-- R158: the causes of a ceiling, in the order of the standing ceilings set (R163). -/
inductive Cause where | guard | coldPlatens | glue | lowPlatens | vacantBays | fill | recovery
  deriving DecidableEq, Repr

def allCauses : List Cause := [.guard, .coldPlatens, .glue, .lowPlatens, .vacantBays, .fill, .recovery]

/-- R154: whether the cycle is in SLOW. -/
def isSlow : Recovery → Bool
  | .slow _ => true
  | _ => false

/-- R150, R151, R153, R154: whether the ceiling of a cause stands; a standing latch imposes the ceiling of its
condition (log entry 13). -/
def State.ceilingStands (s : State) : Cause → Bool
  | .guard => s.governor.lines.guardOpen || s.governor.guardLatch
  | .coldPlatens => s.governor.lines.platenCold
  | .glue => !s.governor.lines.glueReady || s.governor.glueLatch
  | .lowPlatens => s.governor.lines.platenLow && !s.profile.cycling
  | .vacantBays => s.vacantCount < s.profile.lowWater
  | .fill => s.profile.highWater ≤ s.fill
  | .recovery => isSlow s.governor.recovery

/-- R150, R151, R153, R154: the class a ceiling allows. -/
def ceilingPace : Cause → Pace
  | .guard => .stop
  | .coldPlatens => .stop
  | .glue => .hold
  | .lowPlatens => .ease
  | .vacantBays => .crawl
  | .fill => .crawl
  | .recovery => .ease

/-- R147: the lowest of the requested pace, the step-down level and the standing ceilings. -/
def State.lowestPace (s : State) : Pace :=
  ((allCauses.filter s.ceilingStands).map ceilingPace).foldl lowerPace
    (lowerPace s.governor.requested s.governor.stepDown)

/-- R147, R157: the effective pace computed anew; at a change the PACE notice fires. The held queries that a rise
releases are re-evaluated by `State.repaceReleasing`. -/
def State.repace (s : State) : State :=
  if s.lowestPace = s.governor.effective then s
  else State.raise .pace { s with governor := { s.governor with effective := s.lowestPace } }

/-- R151: the guard latch is set. -/
def State.setGuardLatch (s : State) : State :=
  State.levelRises .latched s.anyLatch { s with governor := { s.governor with guardLatch := true } }

/-- R151: the glue latch is set. -/
def State.setGlueLatch (s : State) : State :=
  State.levelRises .latched s.anyLatch { s with governor := { s.governor with glueLatch := true } }

/-- R154: the recovery cycle enters SLOW. -/
def State.startSlow (s : State) : State :=
  { s with governor := { s.governor with recovery := .slow (s.clock + s.profile.slowPeriod * 1000) } }

/-- R154: the recovery cycle enters FAST. -/
def State.startFast (s : State) : State :=
  { s with governor := { s.governor with recovery := .fast (s.clock + s.profile.fastPeriod * 1000) } }

/-- R155: the step-down at RUN with the idle timer started for idle time 1. -/
def State.restartIdle (s : State) : State :=
  { s with governor := { s.governor with stepDown := .run, idleDue := some (s.clock + s.profile.idle1 * 1000) } }

/-- R155: an ADMIT handed by the volume table. -/
def State.handAdmit (s : State) : State := if s.governor.requested = .run then s.restartIdle else s

/-! ### Titles (file 01) -/

/-- R1: a record is found by its code. -/
def State.title? (s : State) (code : Nat) : Option Title := s.titles.find? fun t => t.code == code

/-- R4: the state of a title. -/
def titleState (t : Title) : TitleState :=
  if t.retiring then .retiring else if t.volumeCount = 0 && !t.hold then .dormant else .active

/-- A change to one title's record that touches nothing else. -/
def State.updTitle (code : Nat) (f : Title → Title) (s : State) : State :=
  { s with titles := s.titles.map fun t => if t.code = code then f t else t }

/-- R6: the title moves to the head of the recency list. -/
def State.touchTitle (code : Nat) (s : State) : State :=
  { s with titles := s.titles.filter (fun t => t.code == code) ++ s.titles.filter fun t => t.code != code }

/-- R1, R6: the record leaves its slot and the recency list. -/
def State.removeTitle (code : Nat) (s : State) : State :=
  { s with titles := s.titles.filter fun t => t.code != code }

/-- R1: the lowest-numbered EMPTY slot. -/
def State.emptyTitleSlot (s : State) : Option Nat :=
  (List.range Config.titleSlots).find? fun n => s.titles.all fun t => t.slot != n

/-- R10: the first DORMANT title from the tail of the recency list. -/
def State.evictable (s : State) : Option Title := s.titles.reverse.find? fun t => titleState t == .dormant

/-- R6: the recency depth of a title, 0 at the head. -/
def State.recencyDepth (s : State) (code : Nat) : Nat := s.titles.findIdx fun t => t.code == code

/-- R3: a 32-bit counter saturates. -/
def countUp (n : Nat) : Nat := min (n + 1) Config.counterMax

/-- R19: the counter that a removal raises. -/
inductive Removal where | diverted | outJacketed | outBare | cleared
  deriving DecidableEq, Repr

/-- R20: the removals made by DELIVERED. -/
def Removal.isDelivery : Removal → Bool
  | .outJacketed => true
  | .outBare => true
  | _ => false

/-- R19: one counter is raised and the volume count falls. -/
def countOut (kind : Removal) (t : Title) : Title :=
  let t := { t with volumeCount := t.volumeCount - 1 }
  match kind with
  | .diverted => { t with diverted := countUp t.diverted }
  | .outJacketed => { t with outJacketed := countUp t.outJacketed }
  | .outBare => { t with outBare := countUp t.outBare }
  | .cleared => { t with cleared := countUp t.cleared }

/-- R20: whether a removal brings the title (counted before it, as `t`) to its run quota for the first time; the
sum is taken in full, without saturation. -/
def reachesQuota (kind : Removal) (t : Title) : Bool :=
  kind.isDelivery && 0 < t.quota && !t.quotaReached && t.quota ≤ t.outJacketed + t.outBare + 1

/-- R19, R20, R15: a title takes the removal of one of its volumes; QUOTA fires before RETIRED. -/
def State.countRemoval (kind : Removal) (code : Nat) (s : State) : State :=
  match s.title? code with
  | none => s
  | some t =>
    let s := if reachesQuota kind t then
        State.raise .quota (s.updTitle code fun t => { countOut kind t with quotaReached := true })
      else s.updTitle code (countOut kind)
    if t.retiring && t.volumeCount ≤ 1 then State.raise .retired (s.removeTitle code) else s

/-! ### The miss list (R21, R22) -/

/-- R21: the code joins the tail unless it stands on the list. -/
def State.appendMiss (code : Nat) (s : State) : State :=
  if s.missList.contains code then s
  else State.levelRises .titleMiss (!s.missList.isEmpty) { s with missList := s.missList ++ [code] }

/-- R21: the code leaves the list. -/
def State.dropMiss (code : Nat) (s : State) : State := { s with missList := s.missList.filter fun c => c != code }

/-- R22: the volumes in AWAIT_TITLE that carry a code. -/
def State.waitingFor (s : State) (code : Nat) : List Volume :=
  s.volumes.filter fun v => v.state == .awaitTitle && v.title == code

/-! ### The range map (file 02) -/

/-- R26: a serial matches an enabled entry. -/
def rangeMatches (serial : Nat) (e : RangeEntry) : Bool :=
  e.enabled && serial / 2 ^ e.sizeClass == e.base / 2 ^ e.sizeClass

/-- R28: the unit number of a matched serial. -/
def unitNumber (e : RangeEntry) (serial : Nat) : Nat := (e.unitBase + (serial - e.base)) % 2 ^ 24

/-- R27: of two matches, the one of smaller size class. -/
def moreSpecific (a b : RangeEntry × Nat) : RangeEntry × Nat := if b.1.sizeClass < a.1.sizeClass then b else a

/-- R27: the chosen entry with its index. -/
def State.rangeFor (s : State) (serial : Nat) : Option (RangeEntry × Nat) :=
  match s.ranges.zipIdx.filter fun p => rangeMatches serial p.1 with
  | [] => none
  | p :: ps => some (ps.foldl moreSpecific p)

/-- R30: the base aligned to its size class. -/
def alignBase (base sizeClass : Nat) : Nat := base - base % 2 ^ sizeClass

/-- R31: the other enabled entry of the same size class and aligned base, if there is one. -/
def State.rangeConflict (s : State) (index base sizeClass : Nat) : Option Nat :=
  (s.ranges.zipIdx.find? fun p => p.2 != index && p.1.enabled && p.1.sizeClass == sizeClass && p.1.base == base).map
    Prod.snd

/-! ### Volumes (file 03) -/

/-- R37: the record with this volume number. -/
def State.volume? (s : State) (n : Nat) : Option Volume := s.volumes.find? fun v => v.number == n

/-- A change to one volume's record that touches nothing else. -/
def State.updVolume (n : Nat) (f : Volume → Volume) (s : State) : State :=
  { s with volumes := s.volumes.map fun v => if v.number = n then f v else v }

/-- R37: the lowest-numbered free slot. -/
def State.freeVolumeSlot (s : State) : Option Nat :=
  (List.range Config.volumeSlots).find? fun n => s.volumes.all fun v => v.number != n

/-- R45: the states of the pre-press sequence. -/
def VolumeState.isPrePress : VolumeState → Bool
  | .awaitTitle => true
  | .awaitCase => true
  | .casing => true
  | .cased => true
  | _ => false

/-- R47: the states of the passed part of the post-press sequence. -/
def VolumeState.isPassed : VolumeState → Bool
  | .awaitJacket => true
  | .jacketing => true
  | _ => false

/-- R45: the pre-press sequence, which is always in admission order. -/
def State.prePress (s : State) : List Volume := s.volumes.filter fun v => v.state.isPrePress

/-- R47: the records of the post-press sequence, front first. -/
def State.postPressVolumes (s : State) : List Volume := s.postPress.filterMap s.volume?

/-- R46: the caser's front. -/
def State.caserFront (s : State) : Option Volume :=
  s.volumes.find? fun v => v.state == .awaitTitle || v.state == .awaitCase

/-- R46: the shuttle's front. -/
def State.shuttleFront (s : State) : Option Volume := s.volumes.find? fun v => v.state == .cased

/-- R47: the ON_OUTFEED volumes, front first. -/
def State.onOutfeed (s : State) : List Volume := s.postPressVolumes.filter fun v => v.state == .onOutfeed

/-- R47: the jacketer's front. -/
def State.jacketerFront (s : State) : Option Volume := s.postPressVolumes.find? fun v => v.state == .awaitJacket

/-- R39: a record at admission. -/
def newVolume (number serial title unit raw : Nat) : Volume where
  number := number
  serial := serial
  title := title
  unit := unit
  state := .awaitTitle
  raw := raw
  caseWaits := 0
  jacketWaits := 0
  ungauged := false
  overpressed := false
  pressFault := false
  unverified := false
  returned := false
  outUngauged := false
  bound := none
  caseTag := none
  bay := none
  dwell := none
  tOut := none
  finish := none

/-- The position of a jaw group in `Profile.jaws`. -/
def groupIndex : JawGroup → Nat | .a => 0 | .b => 1 | .c => 2 | .d => 3

/-- R103: the press thickness lies in the range of the group. -/
def groupHolds (p : Profile) (g : JawGroup) (wBook : Nat) : Bool :=
  match p.jaws[groupIndex g]? with
  | none => false
  | some r => r.least ≤ wBook && wBook ≤ r.greatest

/-- R56: some jaw group with a bay assigned to it covers the press thickness. -/
def jawCovered (p : Profile) (wBook : Nat) : Bool :=
  p.assignment.any fun a => (a.map fun g => groupHolds p g wBook).getD false

/-- R55: the divert mark. -/
def divertMark (p : Profile) (cls : FitClass) (wBook : Nat) : Option DivertMark :=
  if cls = .reject then some .misfit else if jawCovered p wBook then none else some .noJaw

/-- R55: the bind part of a volume with this raw reading, under a title record and a profile. -/
def bindPart (p : Profile) (t : Title) (raw : Nat) : BindPart :=
  let tBlk := thickness raw t.tNom
  let cls := fitClass t.band tBlk t.tNom
  let wBook := pressThickness tBlk t.board
  ⟨tBlk, cls, wBook, divertMark p cls wBook⟩

/-- R55, R57: the volume's side of a bind. -/
def bindVolume (p : Profile) (t : Title) (v : Volume) : Volume :=
  { v with state := .awaitCase, bound := some (bindPart p t v.raw), ungauged := failedReading v.raw }

/-- R18: the title's side of a bind. -/
def countIn (t : Title) : Title :=
  { t with admitted := countUp t.admitted, volumeCount := t.volumeCount + 1 }

/-- R18, R55: a volume is bound to the resident title of its code. -/
def State.bind (n : Nat) (s : State) : State :=
  match s.volume? n with
  | none => s
  | some v =>
    match s.title? v.title with
    | none => s
    | some t => (s.updVolume n (bindVolume s.profile t)).updTitle v.title countIn |>.touchTitle v.title

/-- R58 steps 1 to 3: the record leaves its sequence, the admission order and its slot. -/
def State.dropVolume (n : Nat) (s : State) : State :=
  { s with volumes := s.volumes.filter (fun v => v.number != n), postPress := s.postPress.filter fun m => m != n }

/-- R21: the miss list loses a code that no volume in AWAIT_TITLE carries any longer. -/
def State.settleMiss (code : Nat) (s : State) : State :=
  if (s.waitingFor code).isEmpty then s.dropMiss code else s

/-- R58: the removal of a volume record; the fall in fill is handed to the governor. -/
def State.removeVolume (kind : Removal) (v : Volume) (s : State) : State :=
  let s := s.dropVolume v.number
  State.repace (if v.bound.isSome then s.countRemoval kind v.title else s.settleMiss v.title)

/-- R44, R130: a volume goes MISSING and leaves the post-press sequence. -/
def State.goMissing (n : Nat) (s : State) : State :=
  State.levelRises .tracking s.anyMissing
    ({ s with postPress := s.postPress.filter fun m => m != n }.updVolume n fun v => { v with state := .missing })

/-- R47: a passed volume stands behind the passed part and ahead of the unpassed part. -/
def State.placePassed (n : Nat) (s : State) : State :=
  let others := s.postPress.filter fun m => m != n
  let passed := fun m => ((s.volume? m).map fun v => v.state.isPassed).getD false
  { s with postPress := others.filter passed ++ n :: others.filter fun m => !passed m }

/-- R62: the sequence that holds a volume (R163: 0 none, 1 pre-press, 2 post-press) and its depth there. -/
def State.sequenceOf (s : State) (v : Volume) : Nat × Option Nat :=
  if v.state.isPrePress then (1, some (s.prePress.findIdx fun u => u.number == v.number))
  else if s.postPress.contains v.number then (2, some (s.postPress.findIdx fun m => m == v.number))
  else (0, none)

/-! ### Bays (file 06) -/

/-- The bay record of this number. -/
def State.bay? (s : State) (b : Nat) : Option Bay := s.bays[b]?

/-- The bay record is replaced. -/
def State.setBay (b : Nat) (r : Bay) (s : State) : State := { s with bays := s.bays.set b r }

/-- R104: a bay in an unoccupied state, with no volume, no time but the vacated time, and no pending flag. -/
def Bay.unoccupied (state : BayState) (vacated : Option Nat) : Bay :=
  ⟨state, none, vacated, none, none, none, false, false⟩

/-- R104: the occupied states. -/
def BayState.isOccupied : BayState → Bool
  | .reserved => true
  | .closed => true
  | .done => true
  | .emptying => true
  | _ => false

/-- R103: the bay is assigned to a group that the press thickness fits. -/
def State.fitsBay (s : State) (wBook b : Nat) : Bool :=
  match s.profile.assignment[b]? with
  | some (some g) => groupHolds s.profile g wBook
  | _ => false

/-- R107, R108: of two candidates (time, bay), the earlier; the first of equals stays. -/
def earlier (a b : Nat × Nat) : Nat × Nat := if b.1 < a.1 then b else a

/-- R107, R108: the earliest candidate, the lowest-numbered bay among equals when the list is in bay order. -/
def earliest : List (Nat × Nat) → Option (Nat × Nat)
  | [] => none
  | c :: cs => some (cs.foldl earlier c)

/-- R107: the unload candidate U, as its expiry time and its bay. -/
def State.unloadCandidate (s : State) : Option (Nat × Nat) :=
  earliest (s.bays.zipIdx.filterMap fun p => if p.1.state = .done then some (p.1.expiry.getD 0, p.2) else none)

/-- R108: the bay for a press thickness: fitting, VACANT, and vacated earliest. -/
def State.vacantBayFor (s : State) (wBook : Nat) : Option Nat :=
  (earliest (s.bays.zipIdx.filterMap fun p =>
    if p.1.state = .vacant ∧ s.fitsBay wBook p.2 then some (p.1.vacated.getD 0, p.2) else none)).map Prod.snd

/-- R108: the load candidate L, the shuttle's front and its bay; none in STOP. -/
def State.loadCandidate (s : State) : Option (Volume × Nat) :=
  if s.governor.effective = .stop then none
  else match s.shuttleFront with
    | none => none
    | some v => (s.vacantBayFor ((v.bound.map BindPart.wBook).getD 0)).map fun b => (v, b)

/-- R114, R115: the bay goes DONE with its dwell ended at a time, and its overdwell timer starts. -/
def Bay.finish (ended overdwell : Nat) (r : Bay) : Bay :=
  { r with state := .done, closedAt := none, expiry := some ended, overdwellDue := some (ended + overdwell * 1000) }

/-! ### Windows -/

/-- R87: a case window entry matches a volume. -/
def caseMatches (t : Title) (v : Volume) (e : WindowEntry) : Bool :=
  !e.double && e.tag.title == v.title && (t.marry == .run || e.tag.number == v.unit % 2 ^ 20)

/-- R137: a jacket window entry matches a volume. -/
def jacketMatches (t : Title) (v : Volume) (e : WindowEntry) : Bool :=
  !e.double && e.tag.title == v.title && (t.marry == .run || e.tag.number == v.unit)

/-- R88, R137: the first match, with its depth, when the depth is within the skip limit. -/
def usableMatch (fitsVolume : WindowEntry → Bool) (skip : Nat) (window : List WindowEntry) :
    Option (Nat × WindowEntry) :=
  match window.zipIdx.find? fun p => fitsVolume p.1 with
  | none => none
  | some (e, k) => if k ≤ skip then some (k, e) else none

end Sys2Proof.Machine
end

