-- ==== Sys2Proof/Machine/Profile.lean ====
section
/-! DEFINITION. The fields of the line profile (file 10, section 10.3): widths, ranges and defaults, the sections as
numbers and as bytes, and the reading of a stored copy (R186). -/

namespace Sys2Proof.Machine

/-- Section 10.3: a field's width in bytes, its range and its default. -/
structure FieldSpec where
  width : Nat
  inRange : Nat → Bool
  dflt : Nat

/-- A field whose range is an interval. -/
def interval (width least greatest dflt : Nat) : FieldSpec :=
  ⟨width, fun n => least ≤ n && n ≤ greatest, dflt⟩

/-- A field whose range is a list of values. -/
def oneOf (width : Nat) (values : List Nat) (dflt : Nat) : FieldSpec := ⟨width, fun n => values.contains n, dflt⟩

/-- Section 0: the roles of lines 1 to 5. -/
def roleSpecs : List FieldSpec := [interval 1 0 5 1, interval 1 0 5 2, interval 1 0 5 3, interval 1 0 5 4,
  interval 1 0 5 5]

/-- Section 1: the assignments of bays 0 to 15. -/
def assignmentSpecs : List FieldSpec :=
  List.replicate 4 (interval 1 0 4 1) ++ List.replicate 4 (interval 1 0 4 2) ++ List.replicate 4 (interval 1 0 4 3)
    ++ List.replicate 4 (interval 1 0 4 4)

/-- Section 1: minimum and maximum of groups A to D. -/
def jawSpecs : List FieldSpec :=
  [interval 2 10 1200 30, interval 2 10 1200 160, interval 2 10 1200 140, interval 2 10 1200 320,
   interval 2 10 1200 300, interval 2 10 1200 620, interval 2 10 1200 600, interval 2 10 1200 1130]

/-- Section 1: unload priority age and overdwell limit. -/
def pressTimeSpecs : List FieldSpec := [interval 2 5 300 30, interval 2 5 300 30]

/-- Section 2: case skip limit, jacket skip limit, hold limit, wait limit. -/
def matchingSpecs : List FieldSpec := [interval 1 0 7 3, interval 1 0 3 1, interval 2 50 1000 200, interval 1 1 255 16]

/-- Section 3: idle times, recovery cycling, fast and slow period, glue latch, low-water, high-water. -/
def paceSpecs : List FieldSpec :=
  [interval 2 5 600 20, interval 2 5 600 60, interval 1 0 1 0, oneOf 1 [4, 8, 16, 32] 8, oneOf 1 [1, 2, 4, 8] 2,
   interval 1 0 1 1, interval 1 0 8 2, interval 1 32 64 56]

/-- The fields of a section, in their order. -/
def sectionSpecs : Nat → List FieldSpec
  | 0 => roleSpecs
  | 1 => assignmentSpecs ++ jawSpecs ++ pressTimeSpecs
  | 2 => matchingSpecs
  | 3 => paceSpecs
  | _ => []

/-- The widths of the fields of a section. -/
def sectionWidths (n : Nat) : List Nat := (sectionSpecs n).map FieldSpec.width

/-- R164: the bytes of a section. -/
def sectionBytesLength (n : Nat) : Nat := (sectionWidths n).sum

/-- Section 10.3: the role a byte names; a byte out of range is read as NONE, and never stored. -/
def roleOfByte : Nat → Role
  | 1 => .infeed
  | 2 => .caser
  | 3 => .shuttle
  | 4 => .outfeed
  | 5 => .jacketer
  | _ => .none

/-- Section 10.3: the assignment a byte names. -/
def groupOfByte : Nat → Option JawGroup
  | 1 => some .a
  | 2 => some .b
  | 3 => some .c
  | 4 => some .d
  | _ => none

/-- Pairs of minimum and maximum, in order. -/
def jawsOfValues : List Nat → List JawRange
  | a :: b :: rest => ⟨a, b⟩ :: jawsOfValues rest
  | _ => []

/-- The values of a section of a profile, in the order of the table. -/
def sectionValues (p : Profile) : Nat → List Nat
  | 0 => p.roles.map roleCode
  | 1 => p.assignment.map groupCode ++ p.jaws.flatMap (fun r => [r.least, r.greatest]) ++ [p.unloadAge, p.overdwell]
  | 2 => [p.caseSkip, p.jacketSkip, p.holdLimit, p.waitLimit]
  | 3 => [p.idle1, p.idle2, p.cycling.toNat, p.fastPeriod, p.slowPeriod, p.glueLatch.toNat, p.lowWater, p.highWater]
  | _ => []

/-- A profile with the fields of one section replaced whole by these values. -/
def withSection (p : Profile) (n : Nat) (vals : List Nat) : Profile :=
  match n with
  | 0 => { p with roles := vals.map roleOfByte }
  | 1 => { p with
      assignment := (vals.take 16).map groupOfByte, jaws := jawsOfValues ((vals.drop 16).take 8),
      unloadAge := vals.getD 24 30, overdwell := vals.getD 25 30 }
  | 2 => { p with
      caseSkip := vals.getD 0 3, jacketSkip := vals.getD 1 1, holdLimit := vals.getD 2 200,
      waitLimit := vals.getD 3 16 }
  | 3 => { p with
      idle1 := vals.getD 0 20, idle2 := vals.getD 1 60, cycling := vals.getD 2 0 == 1, fastPeriod := vals.getD 3 8,
      slowPeriod := vals.getD 4 2, glueLatch := vals.getD 5 1 == 1, lowWater := vals.getD 6 2,
      highWater := vals.getD 7 56 }
  | _ => p

/-- The bytes of a section of a profile. -/
def sectionBytes (p : Profile) (n : Nat) : List Byte := pack ((sectionWidths n).zip (sectionValues p n))

/-- R186: the bytes of the stored copy, sections 0 to 3. -/
def profileBytes (p : Profile) : List Byte :=
  sectionBytes p 0 ++ sectionBytes p 1 ++ sectionBytes p 2 ++ sectionBytes p 3

/-- R166: no role other than NONE stands twice. -/
def rolesDistinct : List Nat → Bool
  | [] => true
  | r :: rs => (r == 0 || !rs.contains r) && rolesDistinct rs

/-- R187 step 4: each group's minimum is at most its maximum. -/
def jawsOrdered : List Nat → Bool
  | a :: b :: rest => a ≤ b && jawsOrdered rest
  | _ => true

/-- R187 step 4: the values of a section are acceptable. -/
def sectionAcceptable (n : Nat) (vals : List Nat) : Bool :=
  ((sectionSpecs n).zip vals).all (fun p => p.1.inRange p.2)
    && match n with
      | 0 => rolesDistinct vals
      | 1 => jawsOrdered ((vals.drop 16).take 8)
      | _ => true

/-! ### The load (R186) -/

/-- A stored field: its value, or its default with a mark when it is out of its range. -/
def loadField (spec : FieldSpec) (v : Nat) : Nat × Bool := if spec.inRange v then (v, false) else (spec.dflt, true)

/-- Stored fields that are judged one by one. -/
def loadFields (specs : List FieldSpec) (vals : List Nat) : List (Nat × Bool) := specs.zipWith loadField vals

/-- R186: a group whose stored minimum exceeds its stored maximum takes both defaults (log entry 11: also one whose
limits are out of order once a default stands in for one of them). -/
def loadJaws : List FieldSpec → List Nat → List (Nat × Bool)
  | sa :: sb :: specs, a :: b :: vals =>
    (if b < a || (loadField sb b).1 < (loadField sa a).1 then [(sa.dflt, true), (sb.dflt, true)]
     else [loadField sa a, loadField sb b]) ++ loadJaws specs vals
  | _, _ => []

/-- R186: five roles that put one role other than NONE on two lines are replaced together (log entry 11: judged
after fields out of range took their defaults). -/
def loadRoles (vals : List Nat) : List (Nat × Bool) :=
  let loaded := loadFields roleSpecs vals
  if rolesDistinct (loaded.map Prod.fst) then loaded else roleSpecs.map fun sp => (sp.dflt, true)

/-- The fields of a section as the load takes them. -/
def loadSection (n : Nat) (vals : List Nat) : List (Nat × Bool) :=
  match n with
  | 0 => loadRoles vals
  | 1 => loadFields assignmentSpecs (vals.take 16) ++ loadJaws jawSpecs ((vals.drop 16).take 8)
      ++ loadFields pressTimeSpecs (vals.drop 24)
  | n => loadFields (sectionSpecs n) vals

/-- The stored bytes of a section: where they begin in the copy. -/
def sectionStart : Nat → Nat
  | 0 => 0
  | n + 1 => sectionStart n + sectionBytesLength n

/-- The fields of a section as the load takes them from the stored copy. -/
def loadFromCopy (copy : List Byte) (n : Nat) : List (Nat × Bool) :=
  loadSection n (readFields (sectionWidths n) (copy.drop (sectionStart n)))

/-- R186: the valid marker. -/
def validMarker : Byte := 0x5A#8
/-- R186: the invalid marker as it is written. -/
def invalidMarker : Byte := 0x00#8

/-- The profile loaded from a copy, section by section. -/
def profileFromCopy (copy : List Byte) : Profile :=
  [0, 1, 2, 3].foldl (fun p n => withSection p n ((loadFromCopy copy n).map Prod.fst)) Profile.default

/-- The number of fields that took their default. -/
def defaultedFields (copy : List Byte) : Nat :=
  (([0, 1, 2, 3].flatMap (loadFromCopy copy)).filter Prod.snd).length

/-- R186: the working profile and the load's status, from the store and whether it acknowledged. -/
def loadProfile (store : Store) (acknowledged : Bool) : Profile × LoadOutcome × Nat :=
  if !acknowledged then (Profile.default, .noStore, 43)
  else if store.marker = validMarker then (profileFromCopy store.copy, .stored, defaultedFields store.copy)
  else (Profile.default, .defaults, 43)

end Sys2Proof.Machine
end

