-- ==== Sys2Proof/Machine/ReadBack.lean ====
section
/-! DEFINITION. The fields of the answers that read records back, in the order of the request's rule (R17, R62,
R125, R158, R189) and in the widths and codes of R161 and R163 (log entry 17). -/

namespace Sys2Proof.Machine

/-- R17: the jacket part's seven fields. -/
def jacketBytes (j : JacketPart) : List Byte :=
  le 2 j.sheet ++ le 2 j.centre ++ le 2 j.panel ++ le 2 j.spine ++ le 1 j.wrap ++ le 1 j.growth ++ le 2 j.minFlap

/-- R17: the fields of TITLE_READ. -/
def titleFields (t : Title) (depth : Nat) : List Byte :=
  le 3 t.code ++ le 1 (titleStateCode (titleState t)) ++ flagByte t.hold
    ++ le 1 (marryCode t.marry) ++ le 2 t.tNom ++ le 1 t.board ++ optional (t.jacket.map jacketBytes)
    ++ le 1 (bandCode t.band) ++ le 2 t.dwellBase ++ le 1 t.dwellSlope ++ le 2 t.quota
    ++ le 1 t.volumeCount ++ le 4 t.admitted ++ le 4 t.outJacketed ++ le 4 t.outBare ++ le 4 t.diverted
    ++ le 4 t.cleared ++ flagByte t.quotaReached ++ le 1 depth

/-- R22: the fields of MISS_READ, each code with its number of waiting volumes. -/
def State.missFields (s : State) : List Byte :=
  s.missList.flatMap fun c => le 3 c ++ le 1 (s.waitingFor c).length

/-- R34: the fields of an index form RANGE_READ. -/
def rangeFields (e : RangeEntry) : List Byte :=
  flagByte e.enabled ++ le 4 e.base ++ le 1 e.sizeClass ++ le 3 e.code ++ le 3 e.unitBase

/-- R163: the volume flags. -/
def volumeFlags (v : Volume) : List Byte :=
  setByte [v.ungauged, v.overpressed, v.pressFault, v.unverified, v.returned, v.outUngauged]

/-- R163: a finish: the answer code, then what goes with it. -/
def finishBytes : Finish → List Byte
  | .fold eject f1 f2 f3 f4 => le 1 (codeByte .fold) ++ le 1 eject ++ le 2 f1 ++ le 2 f2 ++ le 2 f3 ++ le 2 f4
  | .plain => le 1 (codeByte .plain)
  | .bare why => le 1 (codeByte .bare) ++ le 1 (reasonByte (some (bareReason why)))

/-- R62: the fields of VOLUME_READ. -/
def State.volumeFields (s : State) (v : Volume) : List Byte :=
  le 1 v.number ++ le 4 v.serial ++ le 3 v.title ++ le 3 v.unit ++ le 1 (volumeStateCode v.state) ++ le 2 v.raw
    ++ le 1 v.caseWaits ++ le 1 v.jacketWaits
    ++ optional (v.bound.map fun b => le 2 b.tBlk)
    ++ optional (v.bound.map fun b => le 1 (fitCode b.fit))
    ++ optional (v.bound.map fun b => le 2 b.wBook)
    ++ optional ((v.bound.bind BindPart.mark).map fun m => le 1 (reasonByte (some (markReason m))))
    ++ optional (v.caseTag.map tagBytes)
    ++ optional (v.bay.map fun b => le 1 b)
    ++ optional (v.dwell.map fun d => le 2 d)
    ++ optional (v.tOut.map fun d => le 2 d)
    ++ optional (v.finish.map finishBytes)
    ++ volumeFlags v ++ le 1 (s.sequenceOf v).1 ++ optional ((s.sequenceOf v).2.map fun d => le 1 d)

/-- R163: the bay pending flags. -/
def pendingFlags (r : Bay) : List Byte := setByte [r.faultPending, r.servicePending]

/-- The assignment of a bay in the working profile. -/
def State.assignmentOf (s : State) (b : Nat) : Option JawGroup := (s.profile.assignment[b]?).getD none

/-- R125: the fields of a bay form BAY_READ. -/
def State.bayFields (s : State) (b : Nat) (r : Bay) : List Byte :=
  le 1 (groupCode (s.assignmentOf b)) ++ le 1 (bayStateCode r.state) ++ optional (r.volume.map fun n => le 1 n)
    ++ optional (r.vacated.map timeBytes) ++ optional (r.closedAt.map timeBytes) ++ optional (r.expiry.map timeBytes)
    ++ pendingFlags r ++ timeBytes s.clock

/-- R125: the fields of a bank form BAY_READ. -/
def State.bankFields (s : State) : List Byte :=
  s.bays.flatMap (fun r => le 1 (bayStateCode r.state)) ++ s.profile.assignment.flatMap (fun a => le 1 (groupCode a))
    ++ le 1 s.vacantCount ++ timeBytes s.clock

/-- R163: the standing latches. -/
def State.latchBytes (s : State) : List Byte := setByte [s.governor.guardLatch, s.governor.glueLatch]

/-- R163: the condition lines. -/
def lineBytes (c : ConditionLines) : List Byte := setByte [c.glueReady, c.platenLow, c.platenCold, c.guardOpen]

/-- R154: the end of the recovery period in SLOW or FAST. -/
def recoveryEnd : Recovery → Option Nat
  | .idle => none
  | .slow e => some e
  | .fast e => some e

/-- R158: the number of resident titles in a state. -/
def State.titlesIn (s : State) (st : TitleState) : Nat := (s.titles.filter fun t => titleState t == st).length

/-- R158: the fields of STATUS_READ. -/
def State.statusFields (s : State) : List Byte :=
  le 1 (paceCode s.governor.requested) ++ le 1 (paceCode s.governor.effective)
    ++ le 1 (paceLineCode s.governor.effective)
    ++ lineBytes s.governor.lines
    ++ setByte (allCauses.map s.ceilingStands)
    ++ s.latchBytes
    ++ le 1 (paceCode s.governor.stepDown) ++ optional (s.governor.idleDue.map fun t => timeBytes (t - s.clock))
    ++ le 1 (recoveryCode s.governor.recovery)
    ++ optional ((recoveryEnd s.governor.recovery).map fun t => timeBytes (t - s.clock))
    ++ le 1 s.vacantCount ++ le 1 s.fill
    ++ le 1 (s.titlesIn .dormant) ++ le 1 (s.titlesIn .active) ++ le 1 (s.titlesIn .retiring)
    ++ le 1 s.missList.length
    ++ le 1 (s.volumes.filter fun v => v.state == .missing).length
    ++ le 1 (s.bays.filter fun r => r.state == .faulted).length
    ++ timeBytes s.clock

/-- R189: the fields of PROFILE_READ. -/
def State.profileFields (s : State) (n : Nat) : List Byte :=
  sectionBytes s.profile n ++ le 1 (loadOutcomeCode s.profileStatus.loadOutcome) ++ le 1 s.profileStatus.defaulted
    ++ le 1 (saveStateCode s.profileStatus.save) ++ le 1 (saveResultCode s.profileStatus.lastSave)

end Sys2Proof.Machine
end

