-- ==== Sys2Proof/Machine/Interface.lean ====
section
/-! DEFINITION. The line interface (file 09): output lists, the discard of a frame whose answer has no place, roles,
the report queue's head, the held-query slots, and the supervisor answer slot. -/

namespace Sys2Proof.Machine

/-- The record of a station line. -/
def State.station (s : State) (l : Line) : StationLine := s.stations.getD l.val StationLine.reset

/-- A change to one station line's record that touches nothing else. -/
def State.updStation (l : Line) (f : StationLine → StationLine) (s : State) : State :=
  { s with stations := s.stations.modify l.val f }

/-- R170: the slot of a line takes a new state. -/
def State.setSlot (l : Line) (x : Slot) (s : State) : State := s.updStation l fun r => { r with slot := x }

/-- R167: an answer joins the output list of a line. -/
def State.pushAnswer (l : Line) (a : Answer) (ofQuery : Bool) (s : State) : State :=
  s.updStation l fun r => { r with output := r.output ++ [⟨a, ofQuery⟩] }

/-- R170, R171: the answer of the query in the slot is made. -/
def State.answerSlot (l : Line) (a : Answer) (s : State) : State := (s.pushAnswer l a true).setSlot l .answered

/-- R167: an answer made at the arrival of a frame stands unsent. -/
def State.immediatePending (s : State) (l : Line) : Bool := (s.station l).output.any fun e => !e.ofQuery

/-- R167: a frame answered at its arrival, or discarded unanswered with no state changed. -/
def State.immediately (l : Line) (k : State → State × Answer) (s : State) : State :=
  if s.immediatePending l then s else (k s).1.pushAnswer l (k s).2 false

/-- R166: the role of a line. -/
def State.roleOf (s : State) (l : Line) : Role := s.profile.roles.getD l.val .none

/-- R165 step 3, R179: a station frame of a kind, discarded while loading and refused ROLE where the line's role does
not own the kind. -/
def State.receive (l : Line) (k : Kind) (body : State → State) (s : State) : State :=
  if s.phase = .loading then s
  else if kindOwner k = some (s.roleOf l) then body s
  else s.immediately l fun s => (s, refuse k .role)

/-- R168: a report that passed decoding; `good` is the form check of its owning rule. -/
def State.postReport (l : Line) (k : Kind) (good : Bool) (r : Report) (s : State) : State :=
  s.immediately l fun s =>
    if !good then (s, refuse k .form)
    else if s.reports.length < Config.reportQueueSize then
      ({ s with reports := s.reports ++ [⟨l, r⟩] }, acceptedAnswer k)
    else (s, busyAnswer k)

/-- R170: the number of a line's reports standing in the queue. -/
def State.postedBy (s : State) (l : Line) : Nat := (s.reports.filter fun p => p.line == l).length

/-- The five station lines. -/
def allLines : List Line := [0, 1, 2, 3, 4]

/-- The query of a line's slot, when the slot is HELD. -/
def heldIn : Slot → Option HeldQuery
  | .held h => some h
  | _ => none

/-- The line whose HELD slot holds a query of a kind, with the query. -/
def State.heldQuery (s : State) (isKind : Query → Bool) : Option (Line × HeldQuery) :=
  allLines.findSome? fun l =>
    match heldIn (s.station l).slot with
    | some h => if isKind h.query then some (l, h) else none
    | none => none

def Query.isCaseCall : Query → Bool
  | .caseCall => true
  | _ => false
def Query.isNextMove : Query → Bool
  | .nextMove => true
  | _ => false
def Query.isGauge : Query → Bool
  | .gauge _ _ => true
  | _ => false
def Query.isFoldCall : Query → Bool
  | .foldCall => true
  | _ => false

/-! ### The supervisor port (R175, R176) -/

/-- R176, R179: the state byte. -/
def State.stateByte (s : State) : List Byte :=
  if s.phase = .loading then le 1 1
  else match s.supervisor.slot with
    | .empty => le 1 0
    | .working => le 1 1
    | .holding _ _ => le 1 2

/-- The bytes shifted out in a transaction (log entry 19). -/
def State.shiftOut (bytes : List Byte) (s : State) : State :=
  { s with supervisor := { s.supervisor with shifted := bytes } }

/-- R175: the answer slot takes a new state. -/
def State.setAnswerSlot (x : SupervisorSlot) (s : State) : State :=
  { s with supervisor := { s.supervisor with slot := x } }

/-- R175: the READY output. -/
def State.ready (s : State) : Bool :=
  match s.supervisor.slot with
  | .holding _ _ => true
  | _ => false

/-- R175, R176, R179: a good write carries a request to its owning block when the slot is EMPTY; its answer is then
made and stands in the slot. Otherwise the state byte is the BUSY. -/
def State.request (carryOut : State → State × Answer) (s : State) : State :=
  let t := s.shiftOut s.stateByte
  if s.phase = .loading then t
  else match s.supervisor.slot with
    | .empty =>
      let r := carryOut (t.setAnswerSlot .working)
      r.1.setAnswerSlot (.holding r.2 0)
    | _ => t

end Sys2Proof.Machine
end

