-- ==== Sys2Proof/Machine/Evaluate.lean ====
section
/-! DEFINITION. The evaluation of the five station queries by their owning blocks, and the events that evaluate a
held query again (R48, R89, R97, R109, R110, R129, R134, R139, R144, R156, R170, R171). An evaluation answers `none`
when the query stays held; `last` marks the evaluation at the hold limit. -/

namespace Sys2Proof.Machine

/-! ### CASE_CALL (file 05) -/

/-- R98, R60: the front volume is removed as diverted and DIVERT fires. -/
def divertAtCaser (v : Volume) (r : Reason) (s : State) : State × Answer :=
  (State.raise .divert (s.removeVolume .diverted v), caseDivertAnswer v.number r)

/-- R92, R95, R96: a counted wait, or the DIVERT at the wait limit. -/
def caseWaitCounted (v : Volume) (r : Reason) (s : State) : State × Answer :=
  if v.caseWaits + 1 < s.profile.waitLimit then
    (s.updVolume v.number fun u => { u with caseWaits := u.caseWaits + 1 }, caseWaitAnswer (some v.number))
  else divertAtCaser v r s

/-- R93: the TAKE of the entry at depth `k`. -/
def takeCase (v : Volume) (k : Nat) (tag : Tag) (s : State) : State × Answer :=
  ({ s with caseWindow := s.caseWindow.drop (k + 1) }.updVolume v.number fun u =>
      { u with state := .casing, caseTag := some tag },
    takeAnswer v.number k tag)

/-- R87, R88: the usable match for a volume in the case window. -/
def State.caseMatchFor (s : State) (v : Volume) : Option (Nat × WindowEntry) :=
  match s.title? v.title with
  | none => none
  | some t => usableMatch (caseMatches t v) s.profile.caseSkip s.caseWindow

/-- R89: the evaluation of a CASE_CALL. -/
def evalCaseCall (last : Bool) (s : State) : Option (State × Answer) :=
  match s.caserFront with
  | none => if last then some (s, caseWaitAnswer none) else none
  | some v =>
    if paceRank s.governor.effective ≤ paceRank .hold then
      if last then some (s, caseWaitAnswer (some v.number)) else none
    else match v.bound.bind BindPart.mark with
      | some m => some (divertAtCaser v (markReason m) s)
      | none =>
        if v.state = .awaitTitle then
          if last then some (caseWaitCounted v .noTitle s) else none
        else match s.caseMatchFor v with
          | some (k, e) => some (takeCase v k e.tag s)
          | none =>
            if s.caseWindow.length < Config.caseWindowSize then
              if last then some (caseWaitCounted v .noCase s) else none
            else some (divertAtCaser v .noCase s)

/-! ### NEXT_MOVE (file 06) -/

/-- R112: the UNLOAD of a bay. -/
def unloadBay (b : Nat) (s : State) : State × Answer :=
  match s.bay? b with
  | none => (s, moveWaitAnswer)
  | some r =>
    let n := r.volume.getD 0xFF
    let s := s.setBay b { r with state := .emptying, overdwellDue := none }
    let s := s.updVolume n fun v => { v with state := .unloading }
    ({ s with postPress := s.postPress ++ r.volume.toList }, unloadAnswer b n)

/-- R74 to R76: the dwell of a volume at its LOAD answer. -/
def State.dwellFor (s : State) (v : Volume) : Nat :=
  match s.title? v.title with
  | none => dwellOf 0 0 0 s.governor.lines.platenLow
  | some t => dwellOf t.dwellBase t.dwellSlope ((v.bound.map BindPart.tBlk).getD 0) s.governor.lines.platenLow

/-- R111: the LOAD of a volume into a bay; the vacant count is handed to the governor. -/
def loadVolume (v : Volume) (b : Nat) (s : State) : State × Answer :=
  let d := s.dwellFor v
  let s := s.updVolume v.number fun u => { u with state := .loading, bay := some b, dwell := some d }
  let s := s.setBay b { Bay.unoccupied .reserved none with volume := some v.number }
  (s.repace, loadAnswer v.number b d (v.caseTag.getD ⟨0, 0⟩))

/-- R109: U is unloaded first when it is old enough or the bank is nearly full. -/
def State.unloadFirst (s : State) (expiry : Nat) : Bool :=
  s.profile.unloadAge * 100 ≤ s.clock - expiry || s.vacantCount < 2

/-- R109: the evaluation of a NEXT_MOVE. -/
def evalNextMove (last : Bool) (s : State) : Option (State × Answer) :=
  match s.unloadCandidate, s.loadCandidate with
  | some (t, b), some (v, vb) => if s.unloadFirst t then some (unloadBay b s) else some (loadVolume v vb s)
  | some (_, b), none => some (unloadBay b s)
  | none, some (v, vb) => some (loadVolume v vb s)
  | none, none => if last then some (s, moveWaitAnswer) else none

/-! ### GAUGE (file 07) -/

/-- R132: the taken volume is gauged, then diverted PRESS_FAULT or passed. `flagged` carries UNVERIFIED or RETURNED. -/
def takeAtOutfeed (v : Volume) (raw skipped : Nat) (returned : Bool) (s : State) : State × Answer :=
  let held := (v.bound.map BindPart.wBook).getD 0
  let s := s.updVolume v.number fun u =>
    { u with tOut := some (thickness raw held), outUngauged := u.outUngauged || failedReading raw,
             returned := u.returned || returned }
  if v.pressFault then
    (State.raise .divert (s.removeVolume .diverted v), gaugeDivertAnswer v.number)
  else
    ((s.updVolume v.number fun u => { u with state := .awaitJacket }).placePassed v.number,
      passAnswer v.number skipped returned)

/-- R133: a piece that matches no volume. -/
def strayPiece (s : State) : State × Answer := (State.raise .stray s, strayAnswer)

/-- R130: the volumes ahead of the found one go MISSING, from the front. -/
def skipToMissing (vs : List Volume) (s : State) : State := vs.foldl (fun s v => s.goMissing v.number) s

/-- R129: a volume of the table in a state with this case tag. -/
def State.taggedIn (s : State) (st : VolumeState) (tag : Tag) : Option Volume :=
  s.volumes.find? fun v => v.state == st && v.caseTag == some tag

/-- R129 to R134: the evaluation of a GAUGE. -/
def evalGauge (tag : Option Tag) (raw : Nat) (last : Bool) (s : State) : Option (State × Answer) :=
  match tag with
  | none =>
    match s.onOutfeed with
    | v :: _ =>
      some (takeAtOutfeed v raw 0 false (s.updVolume v.number fun u => { u with unverified := true }))
    | [] => some (strayPiece s)
  | some t =>
    match s.onOutfeed.span fun v => v.caseTag != some t with
    | (ahead, v :: _) => some (takeAtOutfeed v raw ahead.length false (skipToMissing ahead s))
    | (_, []) =>
      match s.taggedIn .missing t with
      | some v => some (takeAtOutfeed v raw 0 true s)
      | none =>
        match s.taggedIn .unloading t with
        | some _ => if last then some (s, gaugeWaitAnswer) else none
        | none => some (strayPiece s)

/-! ### FOLD_CALL (file 07) -/

/-- R139, R82: the front volume takes its finish and goes JACKETING in its place. -/
def State.giveFinish (n : Nat) (f : Finish) (s : State) : State :=
  s.updVolume n fun v => { v with state := .jacketing, finish := some f }

/-- R139, R142, R143: a BARE answer; `window` is the jacket window it leaves. -/
def bareDelivery (v : Volume) (eject : Nat) (why : BareReason) (window : List WindowEntry) (s : State) :
    State × Answer :=
  (State.raise .bare ({ s with jacketWindow := window }.giveFinish v.number (.bare why)),
    bareAnswer v.number eject why)

/-- R142: the answer at a usable match at depth `k`. -/
def foldAt (v : Volume) (marry : Marry) (j : JacketPart) (k : Nat) (tag : Tag) (s : State) : State × Answer :=
  match foldPlan j (v.tOut.getD 0) with
  | .passes f1 f2 f3 f4 =>
    ({ s with jacketWindow := s.jacketWindow.drop (k + 1) }.giveFinish v.number (.fold k f1 f2 f3 f4),
      foldAnswer v.number k f1 f2 f3 f4 tag)
  | .fails why =>
    match marry with
    | .run => bareDelivery v k why (s.jacketWindow.drop k) s
    | .unit => bareDelivery v (k + 1) why (s.jacketWindow.drop (k + 1)) s

/-- R143: a counted wait, or BARE NO_JACKET at the wait limit. -/
def foldWaitCounted (v : Volume) (s : State) : State × Answer :=
  if v.jacketWaits + 1 < s.profile.waitLimit then
    (s.updVolume v.number fun u => { u with jacketWaits := u.jacketWaits + 1 }, foldWaitAnswer (some v.number))
  else bareDelivery v 0 .noJacket s.jacketWindow s

/-- The title record and jacket part of a volume, when its title has one. -/
def State.jacketOf (s : State) (v : Volume) : Option (Title × JacketPart) :=
  match s.title? v.title with
  | none => none
  | some t => t.jacket.map fun j => (t, j)

/-- R139: the evaluation of a FOLD_CALL. -/
def evalFoldCall (last : Bool) (s : State) : Option (State × Answer) :=
  match s.jacketerFront with
  | none => if last then some (s, foldWaitAnswer none) else none
  | some v =>
    if s.governor.effective = .stop then
      if last then some (s, foldWaitAnswer (some v.number)) else none
    else match s.jacketOf v with
      | none => some (s.giveFinish v.number .plain, plainAnswer v.number)
      | some (t, j) =>
        match usableMatch (jacketMatches t v) s.profile.jacketSkip s.jacketWindow with
        | some (k, e) => some (foldAt v t.marry j k e.tag s)
        | none =>
          if s.jacketWindow.length < Config.jacketWindowSize then
            if last then some (foldWaitCounted v s) else none
          else some (bareDelivery v 0 .noJacket s.jacketWindow s)

/-! ### Slots and evaluations -/

/-- R170: the outcome of an evaluation of the query in a line's slot. -/
def State.settle (l : Line) (h : HeldQuery) (r : Option (State × Answer)) (s : State) : State :=
  match r with
  | none => s.setSlot l (.held h)
  | some (t, a) => t.answerSlot l a

/-- The evaluation of a query by its owning block. -/
def evalQuery (q : Query) (last : Bool) (s : State) : Option (State × Answer) :=
  match q with
  | .caseCall => evalCaseCall last s
  | .nextMove => evalNextMove last s
  | .gauge tag raw => evalGauge tag raw last s
  | .foldCall => evalFoldCall last s

/-- A held query of a kind is evaluated again, where there is one. -/
def State.reevaluate (isKind : Query → Bool) (s : State) : State :=
  match s.heldQuery isKind with
  | none => s
  | some (l, h) => s.settle l h (evalQuery h.query false s)

/-- R144: a step that gave the jacketer a front where it had none evaluates a held FOLD_CALL again. -/
def State.afterFront (s before : State) : State :=
  if before.jacketerFront.isNone && s.jacketerFront.isSome then s.reevaluate Query.isFoldCall else s

/-- R170, R171: the query in a line's slot is evaluated; a PASS may give the jacketer a front. -/
def State.evaluate (l : Line) (h : HeldQuery) (last : Bool) (s : State) : State :=
  (s.settle l h (evalQuery h.query last s)).afterFront s

/-- R134: a GAUGE held is evaluated again at each BAY_CLEARED applied. -/
def State.reevaluateGauge (s : State) : State := (s.reevaluate Query.isGauge).afterFront s

/-- R170: a query that passed decoding and its form check; `ahead` is the number of reports it waits behind. -/
def State.takeQuery (l : Line) (k : Kind) (q : Query) (ahead : Nat) (s : State) : State :=
  match (s.station l).slot with
  | .empty =>
    let h : HeldQuery := ⟨q, s.clock, s.profile.holdLimit⟩
    if ahead = 0 then s.evaluate l h false else s.setSlot l (.behind h ahead)
  | _ => s.immediately l fun s => (s, busyAnswer k)

/-- R170: a report of a line has been applied; a BEHIND query it was the last to stand ahead of is evaluated. -/
def State.reportApplied (l : Line) (s : State) : State :=
  match (s.station l).slot with
  | .behind h n => if n ≤ 1 then s.evaluate l h false else s.setSlot l (.behind h (n - 1))
  | _ => s

/-- R168: a posted report is discarded at its application. -/
def misreport (s : State) : State := State.raise .misreport s

/-! ### The governor's hand-over to the line interface (R156) -/

/-- R156: the held queries that a change of the effective pace releases. -/
def State.release (old new : Pace) (s : State) : State :=
  let s := if paceRank old ≤ paceRank .hold ∧ paceRank .crawl ≤ paceRank new then s.reevaluate Query.isCaseCall else s
  if old = .stop ∧ new ≠ .stop then (s.reevaluate Query.isNextMove).reevaluate Query.isFoldCall else s

/-- R147, R156: the effective pace computed anew, with the held queries that a rise releases re-evaluated. -/
def State.repaceReleasing (s : State) : State := s.repace.release s.governor.effective s.repace.governor.effective

/-! ### ENTRY (file 03) -/

/-- R52, R53: the block is admitted with this number; the ADMIT and the fill are handed to the governor. -/
def admitBlock (number serial raw : Nat) (title unit : Nat) (s : State) : State :=
  let s := { s with volumes := s.volumes ++ [newVolume number serial title unit raw] }
  let s := if (s.title? title).isSome then s.bind number else s.appendMiss title
  s.handAdmit.repace

/-- R51, R60: the DIVERT notice fires and nothing else changes. -/
def divertBlock (r : Reason) (s : State) : State × Answer := (State.raise .divert s, entryDivertAnswer r)

/-- R48: the evaluation of an ENTRY, answered at once. -/
def evalEntry (serial raw : Nat) (s : State) : State × Answer :=
  if paceRank s.governor.effective ≤ paceRank .hold ∨ Config.volumeSlots ≤ s.fill then (s, entryWaitAnswer)
  else match s.freeVolumeSlot with
    | none => (s, entryWaitAnswer)
    | some n =>
      if s.volumes.any fun v => v.serial == serial then divertBlock .duplicateSerial s
      else match s.rangeFor serial with
        | none => divertBlock .unmapped s
        | some (e, _) =>
          match s.title? e.code with
          | some t =>
            if t.retiring then divertBlock .retiredTitle s
            else (admitBlock n serial raw e.code (unitNumber e serial) s, admitAnswer n)
          | none =>
            if Config.missListSize ≤ s.missList.length ∧ ¬ s.missList.contains e.code then divertBlock .noTitle s
            else (admitBlock n serial raw e.code (unitNumber e serial) s, admitAnswer n)

/-- R97: an admission that gives the caser a front where it had none evaluates a held CASE_CALL again. -/
def State.afterAdmission (s before : State) : State :=
  if before.caserFront.isNone && s.caserFront.isSome then s.reevaluate Query.isCaseCall else s

end Sys2Proof.Machine
end

