-- ==== Sys2Proof/Machine/PartCommands.lean ====
section
/-! DEFINITION. DEVICE_RESET and PROFILE_LOAD (R179, R186, R160), and the condition lines (R150, R151, R154). -/

namespace Sys2Proof.Machine

/-- What a meaning answers with. -/
abbrev Result := Host.Outcome State Fault Refusal

/-- R188: the store after a device reset, which ends a write with the marker invalid (log entry 9: its bytes are a
free value). -/
def storeAfterReset (s : State) : Store :=
  if s.profileStatus.writing then ⟨invalidMarker, Config.tornStore s.draws⟩ else s.store

/-- R179 and the reset rules of every chapter: all but the store, the input levels, the waiting commands and the
working profile. R102: the case skip limit and the wait limit are unchanged. DESIGN CHOICE (log entry 30): so is every
other field of the working profile, until PROFILE_LOAD takes it anew. -/
def execDeviceReset (s : State) : Result :=
  .next { State.reset with
    governor := { Governor.reset with lines := s.governor.lines }
    profile := s.profile
    store := storeAfterReset s
    draws := if s.profileStatus.writing then s.draws + 1 else s.draws
    pending := s.pending }

/-- R151: the guard condition begins to hold. -/
def State.guardOnset (s : State) : State := s.setGuardLatch

/-- R151: the glue condition begins to hold; it latches when the option is on. -/
def State.glueOnset (s : State) : State := if s.profile.glueLatch then s.setGlueLatch else s

/-- R154: PLATEN_LOW becomes asserted. -/
def State.platenLowOnset (s : State) : State := if s.profile.cycling then s.startSlow else s

/-- R154: PLATEN_LOW becomes deasserted. -/
def State.recoveryIdle (s : State) : State := { s with governor := { s.governor with recovery := .idle } }

/-- R160: the governor takes the level of each line as a change from its clear level. -/
def State.firstReading (s : State) : State :=
  let s := if s.governor.lines.guardOpen then s.guardOnset else s
  let s := if s.governor.lines.glueReady then s else s.glueOnset
  if s.governor.lines.platenLow then s.platenLowOnset else s

/-- R186: the working profile is loaded; the PROFILE event is raised when a default was taken. DESIGN CHOICE (log entry
30): the load takes the skip limits and the wait limit too, as R186, R146 and the worked save of section 10.6 give, so
that R102 holds of the device reset up to its load. -/
def execProfileLoad (acknowledged : Bool) (s : State) : Result :=
  if s.phase = .running then .next s
  else
    let r := loadProfile s.store acknowledged
    let s := { s with phase := .running, profile := r.1, profileStatus := ⟨r.2.1, r.2.2, .idle, .none⟩ }
    let s := if 0 < r.2.2 then State.raise .profile s else s
    .next s.firstReading.repace

/-- R150: a line takes a new level. While the profile is loading nothing else happens (R160). -/
def State.takeLevel (set : ConditionLines → ConditionLines) (effect : State → State) (s : State) : State :=
  let t := { s with governor := { s.governor with lines := set s.governor.lines } }
  if s.phase = .loading ∨ set s.governor.lines = s.governor.lines then t else (effect t).repaceReleasing

/-- R150, R151: GLUE_READY. -/
def execGlueReadyChange (asserted : Bool) (s : State) : Result :=
  .next (s.takeLevel (fun c => { c with glueReady := asserted })
    fun t => if asserted then t else t.glueOnset)

/-- R150, R154: PLATEN_LOW. -/
def execPlatenLowChange (asserted : Bool) (s : State) : Result :=
  .next (s.takeLevel (fun c => { c with platenLow := asserted })
    fun t => if asserted then t.platenLowOnset else t.recoveryIdle)

/-- R150: PLATEN_COLD. -/
def execPlatenColdChange (asserted : Bool) (s : State) : Result :=
  .next (s.takeLevel (fun c => { c with platenCold := asserted }) id)

/-- R150, R151: GUARD_OPEN. -/
def execGuardOpenChange (asserted : Bool) (s : State) : Result :=
  .next (s.takeLevel (fun c => { c with guardOpen := asserted })
    fun t => if asserted then t.guardOnset else t)

end Sys2Proof.Machine
end

