-- ==== Sys2Proof/Machine/BayRequests.lean ====
section
/-! DEFINITION. The bay requests (file 06, R122 to R125). -/

namespace Sys2Proof.Machine

/-- R122: the bay's record after BAY_SERVICE out. -/
def bayOut (r : Bay) : Bay :=
  match r.state with
  | .vacant => { r with state := .outOfService, vacated := none }
  | .faulted => { r with state := .outOfService }
  | .outOfService => r
  | _ => { r with servicePending := true }

/-- R123: the bay's record after BAY_SERVICE in. -/
def bayIn (clock : Nat) (r : Bay) : Bay :=
  match r.state with
  | .faulted => Bay.unoccupied .vacant (some clock)
  | .outOfService => Bay.unoccupied .vacant (some clock)
  | .vacant => r
  | _ => { r with servicePending := false }

/-- R122, R123: the change made by an accepted BAY_SERVICE; the vacant count is handed to the governor, and a bay
brought in evaluates a held NEXT_MOVE again. -/
def serviceBay (b : Nat) (r : Bay) (goesIn : Bool) (s : State) : State :=
  if goesIn then
    let t := (s.setBay b (bayIn s.clock r)).repace
    if r.state = .faulted ∨ r.state = .outOfService then t.reevaluate Query.isNextMove else t
  else (s.setBay b (bayOut r)).repace

/-- R124: the bay's state and pending flags after the request. -/
def serviceFields (b : Nat) (s : State) : List Byte :=
  match s.bay? b with
  | none => []
  | some r => le 1 (bayStateCode r.state) ++ pendingFlags r

/-- R122 to R124; the directions are 0 OUT and 1 IN, and the bay number is tested first. -/
def serviceRequest (b direction : Nat) (s : State) : State × Answer :=
  match if b < Config.bayCount then s.bay? b else none with
  | none => (s, refuse .bayService .badValue)
  | some r =>
    if 1 < direction then (s, refuse .bayService .form)
    else
      let t := serviceBay b r (direction == 1) s
      (t, okAnswer .bayService (serviceFields b t))

def execBayService (bay direction : Nat) (s : State) : Result := .next (s.request (serviceRequest bay direction))

/-- R125, bay form. -/
def readBayRequest (b : Nat) (s : State) : State × Answer :=
  match if b < Config.bayCount then s.bay? b else none with
  | none => (s, refuse .bayRead .badValue)
  | some r => (s, okAnswer .bayRead (s.bayFields b r))

/-- R125. -/
def bayReadRequest : BayQuery → State → State × Answer
  | .bay b => readBayRequest b
  | .bank => fun s => (s, okAnswer .bayRead s.bankFields)

def execBayRead (q : BayQuery) (s : State) : Result := .next (s.request (bayReadRequest q))

end Sys2Proof.Machine
end

