-- ==== Sys2Proof/Machine/Framing.lean ====
section
/-! DEFINITION. BAD_FRAME, FRAME_REFUSED, ANSWER_SEND, ANSWER_COLLISION and ANSWER_READ (R162, R165, R167, R176). -/

namespace Sys2Proof.Machine

/-- R162: a bad frame is discarded unanswered and no state of any block changes. On the supervisor port the
transaction shifts out the state byte (R176). -/
def execBadFrame (p : Port) (_cause : BadFrame) (s : State) : Result :=
  match p with
  | .station _ => .next s
  | .supervisor => .next (s.shiftOut s.stateByte)

/-- R165 steps 1 to 4: why a good frame received on a port is refused at decoding, if it is. DESIGN CHOICE (log entry
31): the order of R165 holds on a line of role NONE too, so an unknown kind and a wrong port tag are FORM there,
although R166 has every good frame on such a line answered ROLE. -/
def frameFault (p : Port) (kind tag : Nat) (body : List Byte) (s : State) : Option Reason :=
  match kindOfByte kind with
  | none => some .form
  | some k =>
    if tag ≠ portTag p then some .form
    else if kindOwner k ≠ (match p with
        | .station l => some (s.roleOf l)
        | .supervisor => none) then some .role
    else if (commandOf p k body).isNone then some .form
    else none

/-- R165: a good frame refused at decoding is answered REFUSED FORM or ROLE and reaches no block. A frame that passes
is another command, and this event does not occur (log entry 20). -/
def execFrameRefused (p : Port) (kind tag : Nat) (body : List Byte) (s : State) : Result :=
  match frameFault p kind tag body s with
  | none => .next s
  | some r =>
    match p with
    | .station l =>
      if s.phase = .loading then .next s
      else .next (s.immediately l fun s => (s, refusedAnswer kind r))
    | .supervisor => .next (s.request fun s => (s, refusedAnswer kind r))

/-- R170: a slot in ANSWERED whose answer has been sent goes EMPTY. -/
def slotSent (e : OutEntry) (x : Slot) : Slot := if e.ofQuery then .empty else x

/-- R167: the front answer is sent whole and leaves the output list. -/
def execAnswerSend (l : Line) (s : State) : Result :=
  match (s.station l).output with
  | [] => .next s
  | e :: rest =>
    .next (s.updStation l fun r =>
      { r with output := rest, slot := slotSent e r.slot, driven := partFrame (l.val + 1) e.answer 0 })

/-- R167: the send stops at the byte that was read back changed, and the answer stays at the front. -/
def execAnswerCollision (l : Line) (sent : Nat) (s : State) : Result :=
  match (s.station l).output with
  | [] => .next s
  | e :: _ => .next (s.updStation l fun r => { r with driven := (partFrame (l.val + 1) e.answer 0).take (sent + 1) })

/-- R176: the answer slot after part `next` has been read whole. -/
def afterPart (a : Answer) (next : Nat) : SupervisorSlot :=
  if next + 1 < partCount a then .holding a (next + 1) else .empty

/-- R176: a read transaction with `clocked` bytes clocked out after the state byte. -/
def execAnswerRead (clocked : Nat) (s : State) : Result :=
  if s.phase = .loading then .next (s.shiftOut s.stateByte)
  else match s.supervisor.slot with
    | .holding a next =>
      let frame := partFrame (portTag .supervisor) a next
      let t := s.shiftOut (s.stateByte ++ frame.take clocked)
      .next (if frame.length ≤ clocked then t.setAnswerSlot (afterPart a next) else t)
    | _ => .next (s.shiftOut s.stateByte)

end Sys2Proof.Machine
end

