-- ==== Sys2Proof/Machine/PaceRequests.lean ====
section
/-! DEFINITION. PACE_SET, PACE_RELEASE and STATUS_READ (file 08, R149, R152, R155, R158), and the notice requests
(file 10, R182 to R184). -/

namespace Sys2Proof.Machine

/-- R149, R155: the requested pace is stored and acts on the step-down. -/
def State.requestPace (p : Pace) (s : State) : State :=
  let s := { s with governor := { s.governor with requested := p } }
  if p = .run then s.restartIdle
  else { s with governor := { s.governor with stepDown := .run, idleDue := none } }

/-- R149; the effective pace answered is the one that stands once every change has been made (log entry 12). -/
def setPaceRequest (pace : Nat) (s : State) : State × Answer :=
  match paceOfByte pace with
  | none => (s, refuse .paceSet .badValue)
  | some p =>
    let t := (s.requestPace p).repaceReleasing
    (t, okAnswer .paceSet (le 1 (paceCode t.governor.requested) ++ le 1 (paceCode t.governor.effective)))

def execPaceSet (pace : Nat) (s : State) : Result := .next (s.request (setPaceRequest pace))

/-- R152: each latch whose condition is clear is cleared. -/
def State.releaseLatches (s : State) : State :=
  { s with governor := { s.governor with
      guardLatch := s.governor.guardLatch && s.governor.lines.guardOpen
      glueLatch := s.governor.glueLatch && !s.governor.lines.glueReady } }

/-- R152. -/
def releaseRequest (s : State) : State × Answer :=
  let t := s.releaseLatches.repaceReleasing
  (t, okAnswer .paceRelease t.latchBytes)

def execPaceRelease (s : State) : Result := .next (s.request releaseRequest)

/-- R158. -/
def execStatusRead (s : State) : Result := .next (s.request fun s => (s, okAnswer .statusRead s.statusFields))

/-! ### Notices -/

/-- R182: the enables written, and the flags of enabled level kinds whose condition is true set. -/
def State.writeEnables (mask : BitVec 14) (s : State) : State :=
  let t := { s with notices := { s.notices with enables := mask } }
  { t with notices := { t.notices with flags := t.flagLevels t.notices.flags } }

/-- R182. -/
def enableRequest (mask : Nat) (s : State) : State × Answer :=
  if !goodMask mask then (s, refuse .noticeEnable .badValue)
  else
    let t := s.writeEnables (BitVec.ofNat 14 mask)
    (t, okAnswer .noticeEnable (le 2 t.notices.enables.toNat ++ le 2 t.notices.flags.toNat))

def execNoticeEnable (mask : Nat) (s : State) : Result := .next (s.request (enableRequest mask))

/-- R183: the named flags are cleared, and level flags that still stand for a true condition come back. -/
def State.clearFlags (mask : BitVec 14) (s : State) : State :=
  { s with notices := { s.notices with
      flags := (s.notices.flags &&& ~~~mask) ||| (mask &&& s.notices.enables &&& s.conditions) } }

/-- R183. -/
def clearRequest (mask : Nat) (s : State) : State × Answer :=
  if !goodMask mask then (s, refuse .noticeClear .badValue)
  else
    let t := s.clearFlags (BitVec.ofNat 14 mask)
    (t, okAnswer .noticeClear (le 2 t.notices.flags.toNat))

def execNoticeClear (mask : Nat) (s : State) : Result := .next (s.request (clearRequest mask))

/-- R184. -/
def execNoticeRead (s : State) : Result :=
  .next (s.request fun s =>
    (s, okAnswer .noticeRead
      (le 2 s.notices.flags.toNat ++ le 2 s.notices.enables.toNat ++ s.conditionByte)))

end Sys2Proof.Machine
end

