-- ==== Sys2Proof/Machine/ProfileRequests.lean ====
section
/-! DEFINITION. The profile requests and the store's write (file 10, R187 to R189, with R96, R126, R143, R159, R166),
and LINE_CLEAR (R177, R178, with R24, R65, R102, R127, R146). -/

namespace Sys2Proof.Machine

/-- R166: the role of this line is changed by the new profile. -/
def roleChanges (old new : Profile) (l : Line) : Bool :=
  old.roles.getD l.val .none != new.roles.getD l.val .none

/-- R166: a query in the slot of a line whose role changed is answered WAIT. -/
def State.roleChanged (old new : Profile) (s : State) (l : Line) : State :=
  if roleChanges old new l then
    match (s.station l).slot with
    | .held h => s.answerSlot l (bareWaitAnswer h.query)
    | .behind h _ => s.answerSlot l (bareWaitAnswer h.query)
    | _ => s
  else s

/-- R96, R143: a wait count under a wait limit. -/
def lowerCount (limit n : Nat) : Nat := if limit ≤ n then limit - 1 else n

/-- R96, R143: the wait counts of every volume brought below the limit in force. -/
def State.lowerWaits (s : State) : State :=
  { s with volumes := s.volumes.map fun v =>
      { v with caseWaits := lowerCount s.profile.waitLimit v.caseWaits
               jacketWaits := lowerCount s.profile.waitLimit v.jacketWaits } }

/-- R159: the glue latch option turned on. -/
def State.optionOn (old : Profile) (s : State) : State :=
  if !old.glueLatch && s.profile.glueLatch && !s.governor.lines.glueReady && !s.governor.glueLatch then s.setGlueLatch
  else s

/-- R154, R159: recovery cycling turned on or off. -/
def State.cyclingChanged (old : Profile) (s : State) : State :=
  if !old.cycling && s.profile.cycling && s.governor.lines.platenLow then s.startSlow
  else if old.cycling && !s.profile.cycling then s.recoveryIdle
  else s

/-- R187: each block takes the new values of a section. -/
def State.takeProfile (n : Nat) (old : Profile) (s : State) : State :=
  match n with
  | 0 => allLines.foldl (State.roleChanged old s.profile) s
  | 1 => s.repaceReleasing.reevaluate Query.isNextMove
  | 2 => s.lowerWaits
  | 3 => ((s.optionOn old).cyclingChanged old).repaceReleasing
  | _ => s

/-- R187 step 3: effective pace STOP and no bay CLOSED. -/
def State.profileMayChange (s : State) : Bool :=
  s.governor.effective == .stop && !s.bays.any fun r => r.state == .closed

/-- R187. -/
def setProfileRequest (n : Nat) (fields : List Byte) (s : State) : State × Answer :=
  if 3 < n ∨ fields.length ≠ sectionBytesLength n then (s, refuse .profileSet .form)
  else if s.profileStatus.writing then (s, busyAnswer .profileSet)
  else if !s.profileMayChange then (s, refuse .profileSet .notStopped)
  else
    let vals := readFields (sectionWidths n) fields
    if !sectionAcceptable n vals then (s, refuse .profileSet .badValue)
    else (({ s with profile := withSection s.profile n vals }).takeProfile n s.profile, okAnswer .profileSet [])

def execProfileSet (sectionNo : Nat) (fields : List Byte) (s : State) : Result :=
  .next (s.request (setProfileRequest sectionNo fields))

/-- R189. -/
def readProfileRequest (n : Nat) (s : State) : State × Answer :=
  if 3 < n then (s, refuse .profileRead .badValue) else (s, okAnswer .profileRead (s.profileFields n))

def execProfileRead (sectionNo : Nat) (s : State) : Result := .next (s.request (readProfileRequest sectionNo))

/-- R188: the save begins, and its answer does not wait for the write. The first stage makes the store's marker
invalid (log entry 10: at the acceptance itself). -/
def State.beginSave (s : State) : State :=
  { s with
    store := { s.store with marker := invalidMarker }
    profileStatus := { s.profileStatus with save := .writing s.store.marker } }

/-- R188. -/
def saveRequest (s : State) : State × Answer :=
  if s.profileStatus.writing then (s, busyAnswer .profileSave) else (s.beginSave, okAnswer .profileSave [])

def execProfileSave (s : State) : Result := .next (s.request saveRequest)

/-- R188: the store acknowledges the valid marker, and the write has ended. -/
def execProfileSaveDone (s : State) : Result :=
  match s.profileStatus.save with
  | .idle => .next s
  | .writing _ =>
    .next { s with
      store := ⟨validMarker, profileBytes s.profile⟩
      profileStatus := { s.profileStatus with save := .idle, lastSave := .done } }

/-- R188: the store after a write that ended with `n` bytes acknowledged: the invalid marker, then the bytes of the
fields, then the valid marker (log entry 10). With none acknowledged the first stage failed, and the store keeps its
earlier marker and fields. -/
def storeAfterFailure (p : Profile) (earlier : Byte) (store : Store) (n : Nat) : Store :=
  if n = 0 then { store with marker := earlier }
  else ⟨invalidMarker, (profileBytes p).take (n - 1) ++ store.copy.drop (n - 1)⟩

/-- R188: the store fails to acknowledge a transfer, and the PROFILE event is raised. -/
def execProfileSaveFailed (acknowledged : Nat) (s : State) : Result :=
  match s.profileStatus.save with
  | .idle => .next s
  | .writing earlier =>
    .next (State.raise .profile { s with
      store := storeAfterFailure s.profile earlier s.store acknowledged
      profileStatus := { s.profileStatus with save := .idle, lastSave := .storeFailed } })

/-! ### LINE_CLEAR -/

/-- R65: the record with this number is removed, counted as cleared. -/
def State.clearVolume (s : State) (n : Nat) : State :=
  match s.volume? n with
  | none => s
  | some v => s.removeVolume .cleared v

/-- R65: every record is removed, in order of volume number. -/
def State.clearVolumes (s : State) : State := (List.range Config.volumeSlots).foldl State.clearVolume s

/-- R127: a bay after the clear. -/
def clearBay (clock : Nat) (r : Bay) : Bay :=
  if r.state.isOccupied then Bay.unoccupied .vacant (some clock) else r

/-- R178: a slot after the clear; a query BEHIND or HELD is dropped unanswered. -/
def clearSlot : Slot → Slot
  | .behind _ _ => .empty
  | .held _ => .empty
  | x => x

/-- R102, R127, R146, R178: what the clear does beside the volumes. -/
def State.clearLine (s : State) : State :=
  { s with
    caseWindow := []
    jacketWindow := []
    bays := s.bays.map (clearBay s.clock)
    reports := []
    stations := s.stations.map fun r => { r with slot := clearSlot r.slot } }

/-- R177. -/
def lineClearRequest (s : State) : State × Answer :=
  if s.governor.effective = .stop then
    (s.clearVolumes.clearLine.repace, okAnswer .lineClear (le 1 s.fill))
  else (s, refuse .lineClear .notStopped)

def execLineClear (s : State) : Result := .next (s.request lineClearRequest)

end Sys2Proof.Machine
end

