-- ==== Sys2Proof/Machine/Queries.lean ====
section
/-! DEFINITION. The five station queries at their arrival (R48, R89, R107, R128, R139, R170), and the timers (R114,
R115, R154, R155, R171). -/

namespace Sys2Proof.Machine

/-- R48, R170: an ENTRY is evaluated at once; it is never BEHIND (R171, log entry 16). -/
def State.takeEntry (l : Line) (serial raw : Nat) (s : State) : State :=
  match (s.station l).slot with
  | .empty =>
    let r := evalEntry serial raw s
    (r.1.answerSlot l r.2).afterAdmission s
  | _ => s.immediately l fun s => (s, busyAnswer .entry)

/-- R165 step 5: a query whose form check fails is answered REFUSED FORM at its arrival. -/
def State.checked (l : Line) (k : Kind) (good : Bool) (body : State → State) (s : State) : State :=
  if good then body s else s.immediately l fun s => (s, refuse k .form)

/-- R48 to R53. -/
def execEntry (l : Line) (serial raw : Nat) (s : State) : Result :=
  .next (s.receive l .entry (State.checked l .entry (goodRaw raw) (State.takeEntry l serial raw)))

/-- R89. -/
def execCaseCall (l : Line) (s : State) : Result :=
  .next (s.receive l .caseCall fun s => s.takeQuery l .caseCall .caseCall (s.postedBy l))

/-- R107, R109. -/
def execNextMove (l : Line) (s : State) : Result :=
  .next (s.receive l .nextMove fun s => s.takeQuery l .nextMove .nextMove (s.postedBy l))

/-- R128, R129; a GAUGE is never BEHIND (R171, log entry 16). -/
def execGauge (l : Line) (tagRead title number raw : Nat) (s : State) : Result :=
  .next (s.receive l .gauge (State.checked l .gauge (goodGauge tagRead title number raw) fun s =>
    s.takeQuery l .gauge (.gauge (gaugeTag tagRead title number) raw) 0))

/-- R139. -/
def execFoldCall (l : Line) (s : State) : Result :=
  .next (s.receive l .foldCall fun s => s.takeQuery l .foldCall .foldCall (s.postedBy l))

/-! ### Timers -/

/-- R171: the hold limit of the query in a line's slot expires. -/
def execHoldLimitExpiry (l : Line) (s : State) : Result :=
  match (s.station l).slot with
  | .held h => .next ((s.clockReaches (h.arrival + h.limit)).evaluate l h true)
  | .behind h _ => .next ((s.clockReaches (h.arrival + h.limit)).answerSlot l (bareWaitAnswer h.query))
  | _ => .next s

/-- R114: the dwell of a CLOSED bay ends. -/
def State.dwellEnds (b : Nat) (r : Bay) (s : State) : State :=
  let t := s.setBay b (r.finish (r.expiry.getD 0) s.profile.overdwell)
  match r.volume with
  | none => t.reevaluate Query.isNextMove
  | some n => (t.updVolume n fun v => { v with state := .pressed }).reevaluate Query.isNextMove

/-- R114: the dwell timer of a CLOSED bay expires, at the bay's expiry time. -/
def execDwellExpiry (b : Fin 16) (s : State) : Result :=
  match s.bay? b.val with
  | none => .next s
  | some r =>
    if r.state = .closed then .next ((s.clockReaches (r.expiry.getD 0)).dwellEnds b.val r) else .next s

/-- R115: the volume of a bay left DONE is flagged, and the timer has run out. -/
def State.overpress (b : Nat) (r : Bay) (s : State) : State :=
  let t := s.setBay b { r with overdwellDue := none }
  State.raise .overpress (match r.volume with
    | none => t
    | some n => t.updVolume n fun v => { v with overpressed := true })

/-- R115: the overdwell timer of a bay still DONE expires. -/
def execOverdwellExpiry (b : Fin 16) (s : State) : Result :=
  match s.bay? b.val with
  | none => .next s
  | some r =>
    match r.overdwellDue with
    | none => .next s
    | some due =>
      if r.state = .done then .next ((s.clockReaches due).overpress b.val r) else .next s

/-- R155: the step-down falls by one level. -/
def State.stepDownFalls (s : State) : State :=
  if s.governor.stepDown = .run then
    { s with governor := { s.governor with stepDown := .ease, idleDue := some (s.clock + s.profile.idle2 * 1000) } }
  else { s with governor := { s.governor with stepDown := .crawl, idleDue := none } }

/-- R155: the idle timer expires. -/
def execIdleTimerExpiry (s : State) : Result :=
  match s.governor.idleDue with
  | none => .next s
  | some due => .next (s.clockReaches due).stepDownFalls.repaceReleasing

/-- R154: the current period of the recovery cycle ends. -/
def execRecoveryPeriodEnd (s : State) : Result :=
  match s.governor.recovery with
  | .idle => .next s
  | .slow ends => .next (s.clockReaches ends).startFast.repaceReleasing
  | .fast ends => .next (s.clockReaches ends).startSlow.repaceReleasing

end Sys2Proof.Machine
end

