-- ==== Sys2Proof/Machine/RangeRequests.lean ====
section
/-! DEFINITION. The range requests (file 02, R29 to R34). -/

namespace Sys2Proof.Machine

/-- R32: the named entry is replaced whole. -/
def State.setRange (index : Nat) (e : RangeEntry) (s : State) : State := { s with ranges := s.ranges.set index e }

/-- R29 steps 1 to 4. -/
def rangeValuesGood (index sizeClass code unitBase : Nat) : Bool :=
  index < Config.rangeEntries && 4 ≤ sizeClass && sizeClass ≤ 24 && goodTitleCode code && unitBase ≤ Config.codeMax

/-- R29 to R32. -/
def setRangeRequest (index base sizeClass code unitBase : Nat) (s : State) : State × Answer :=
  if !rangeValuesGood index sizeClass code unitBase then (s, refuse .rangeSet .badValue)
  else
    let aligned := alignBase base sizeClass
    match s.rangeConflict index aligned sizeClass with
    | some i => (s, ⟨kindByte .rangeSet, .refused, some .overlap, le 1 i⟩)
    | none =>
      (s.setRange index ⟨true, aligned, sizeClass, code, unitBase⟩,
        ⟨kindByte .rangeSet, if aligned = base then .ok else .okAligned, none, le 4 aligned⟩)

def execRangeSet (index base sizeClass code unitBase : Nat) (s : State) : Result :=
  .next (s.request (setRangeRequest index base sizeClass code unitBase))

/-- A request that names a range entry by index (R25). -/
def onRange (k : Kind) (index : Nat) (f : RangeEntry → State → State × Answer) (s : State) : State × Answer :=
  if Config.rangeEntries ≤ index then (s, refuse k .badValue)
  else f ((s.ranges[index]?).getD RangeEntry.cleared) s

/-- R33. -/
def clearRangeRequest (index : Nat) : State → State × Answer :=
  onRange .rangeClear index fun e s => (s.setRange index { e with enabled := false }, okAnswer .rangeClear [])

def execRangeClear (index : Nat) (s : State) : Result := .next (s.request (clearRangeRequest index))

/-- R34, serial form: the lookup of R26 to R28. -/
def findSerialRequest (serial : Nat) (s : State) : State × Answer :=
  match s.rangeFor serial with
  | none => (s, refuse .rangeRead .notFound)
  | some (e, i) => (s, okAnswer .rangeRead (le 1 i ++ le 3 e.code ++ le 3 (unitNumber e serial)))

/-- R34. -/
def readRangeRequest : RangeQuery → State → State × Answer
  | .index i => onRange .rangeRead i fun e s => (s, okAnswer .rangeRead (rangeFields e))
  | .serial n => findSerialRequest n

def execRangeRead (q : RangeQuery) (s : State) : Result := .next (s.request (readRangeRequest q))

end Sys2Proof.Machine
end

