-- ==== Sys2Proof/Machine/Reports.lean ====
section
/-! DEFINITION. The eight station reports: their arrival (R84, R99, R100, R113, R116, R117, R136, R145, R168) and
their application from the head of the report queue. -/

namespace Sys2Proof.Machine

/-! ### Arrival -/

/-- R84. -/
def execCaseSeen (l : Line) (title number : Nat) (s : State) : Result :=
  .next (s.receive l .caseSeen
    (State.postReport l .caseSeen (goodCaseTag title number) (.caseSeen ⟨title, number⟩)))

/-- R99. -/
def execCased (l : Line) (volume : Nat) (s : State) : Result :=
  .next (s.receive l .cased (State.postReport l .cased (goodVolumeNumber volume) (.cased volume)))

/-- R100. -/
def execCaseSpoiled (l : Line) (volume : Nat) (s : State) : Result :=
  .next (s.receive l .caseSpoiled
    (State.postReport l .caseSpoiled (goodVolumeNumber volume) (.caseSpoiled volume)))

/-- R113. -/
def execBayClosed (l : Line) (bay : Nat) (s : State) : Result :=
  .next (s.receive l .bayClosed (State.postReport l .bayClosed (goodBayNumber bay) (.bayClosed bay)))

/-- R116. -/
def execBayCleared (l : Line) (bay : Nat) (s : State) : Result :=
  .next (s.receive l .bayCleared (State.postReport l .bayCleared (goodBayNumber bay) (.bayCleared bay)))

/-- R117. -/
def execBayFault (l : Line) (bay : Nat) (s : State) : Result :=
  .next (s.receive l .bayFault (State.postReport l .bayFault (goodBayNumber bay) (.bayFault bay)))

/-- R136. -/
def execJacketSeen (l : Line) (title unit : Nat) (s : State) : Result :=
  .next (s.receive l .jacketSeen
    (State.postReport l .jacketSeen (goodJacketTag title) (.jacketSeen ⟨title, unit⟩)))

/-- R145. -/
def execDelivered (l : Line) (volume : Nat) (s : State) : Result :=
  .next (s.receive l .delivered (State.postReport l .delivered (goodVolumeNumber volume) (.delivered volume)))

/-! ### Application -/

/-- R168, R170: the entry at the head of the queue is applied and leaves the queue, and a query BEHIND it on its line
comes nearer to its evaluation. `effect` gives the report's effect, and `none` where the head is of another kind:
then the event does not occur (log entry 4). -/
def State.applyHead (effect : Report → Option (State → State)) (s : State) : State :=
  match s.reports with
  | [] => s
  | p :: rest =>
    match effect p.report with
    | none => s
    | some f => (f { s with reports := rest }).reportApplied p.line

/-- R85: the tag is already in use, in the window or by a volume record. -/
def State.caseTagInUse (s : State) (tag : Tag) : Bool :=
  s.caseWindow.any (fun e => !e.double && e.tag == tag) || s.volumes.any fun v => v.caseTag == some tag

/-- R84, R85. -/
def applyCaseSeen (tag : Tag) (s : State) : State :=
  if Config.caseWindowSize ≤ s.caseWindow.length then misreport s
  else
    State.reevaluate Query.isCaseCall { s with caseWindow := s.caseWindow ++ [⟨tag, s.caseTagInUse tag⟩] }

def execCaseSeenApplied (s : State) : Result :=
  .next (s.applyHead fun
    | .caseSeen tag => some (applyCaseSeen tag)
    | _ => none)

/-- A report that names a volume: its effect in the state it fits, MISREPORT in any other (R99, R100, R145). -/
def State.onVolumeIn (n : Nat) (st : VolumeState) (effect : Volume → State → State) (s : State) : State :=
  match s.volume? n with
  | none => misreport s
  | some v => if v.state = st then effect v s else misreport s

/-- R99. -/
def applyCased (n : Nat) (s : State) : State :=
  s.onVolumeIn n .casing fun v s =>
    (s.updVolume v.number fun u => { u with state := .cased }).reevaluate Query.isNextMove

def execCasedApplied (s : State) : Result :=
  .next (s.applyHead fun
    | .cased n => some (applyCased n)
    | _ => none)

/-- R100. -/
def applyCaseSpoiled (n : Nat) (s : State) : State :=
  s.onVolumeIn n .casing fun v s => s.removeVolume .diverted v

def execCaseSpoiledApplied (s : State) : Result :=
  .next (s.applyHead fun
    | .caseSpoiled n => some (applyCaseSpoiled n)
    | _ => none)

/-- The volume a bay holds takes a change. -/
def State.updBayVolume (r : Bay) (f : Volume → Volume) (s : State) : State :=
  match r.volume with
  | none => s
  | some n => s.updVolume n f

/-- The stored dwell of the volume a bay holds, in milliseconds (R113). -/
def State.bayDwell (s : State) (r : Bay) : Nat :=
  (((r.volume.bind s.volume?).bind Volume.dwell).getD 0) * 100

/-- R113. -/
def applyBayClosed (b : Nat) (s : State) : State :=
  match s.bay? b with
  | none => misreport s
  | some r =>
    if r.state = .reserved then
      (s.setBay b { r with state := .closed, closedAt := some s.clock, expiry := some (s.clock + s.bayDwell r) }).updBayVolume
        r fun v => { v with state := .pressing }
    else misreport s

def execBayClosedApplied (s : State) : Result :=
  .next (s.applyHead fun
    | .bayClosed b => some (applyBayClosed b)
    | _ => none)

/-- R116 steps 2 and 3: the bay's record once it has been emptied. -/
def emptiedBay (clock : Nat) (r : Bay) : Bay :=
  if r.faultPending then Bay.unoccupied .faulted none
  else if r.servicePending then Bay.unoccupied .outOfService none
  else Bay.unoccupied .vacant (some clock)

/-- R116, R134. -/
def applyBayCleared (b : Nat) (s : State) : State :=
  match s.bay? b with
  | none => misreport s
  | some r =>
    if r.state = .emptying then
      let t := (s.setBay b (emptiedBay s.clock r)).updBayVolume r fun v => { v with state := .onOutfeed, bay := none }
      let t := if r.faultPending then t.levelRises .bayFault s.anyFaulted else t
      let t := t.repace
      let t := if (emptiedBay s.clock r).state = .vacant then t.reevaluate Query.isNextMove else t
      t.reevaluateGauge
    else misreport s

def execBayClearedApplied (s : State) : Result :=
  .next (s.applyHead fun
    | .bayCleared b => some (applyBayCleared b)
    | _ => none)

/-- R117, first row. -/
def faultVacant (b : Nat) (r : Bay) (s : State) : State :=
  ((s.setBay b { r with state := .faulted, vacated := none }).levelRises .bayFault s.anyFaulted).repace

/-- R118. -/
def faultReserved (b : Nat) (r : Bay) (s : State) : State :=
  let t := (s.updBayVolume r fun v => { v with state := .cased, bay := none, dwell := none }).setBay b
    (Bay.unoccupied .faulted none)
  (t.levelRises .bayFault s.anyFaulted).reevaluate Query.isNextMove

/-- R119. -/
def faultClosed (b : Nat) (r : Bay) (s : State) : State :=
  let t := s.setBay b { r.finish s.clock s.profile.overdwell with faultPending := true }
  (t.updBayVolume r fun v => { v with state := .pressed, pressFault := true }).reevaluate Query.isNextMove

/-- R117 to R120. -/
def applyBayFault (b : Nat) (s : State) : State :=
  match s.bay? b with
  | none => s
  | some r =>
    match r.state with
    | .vacant => faultVacant b r s
    | .reserved => faultReserved b r s
    | .closed => faultClosed b r s
    | .done => s.setBay b { r with faultPending := true }
    | .emptying => s.setBay b { r with faultPending := true }
    | .faulted => s
    | .outOfService => s

def execBayFaultApplied (s : State) : Result :=
  .next (s.applyHead fun
    | .bayFault b => some (applyBayFault b)
    | _ => none)

/-- R136: a unit jacket whose tag equals that of an entry clear of DOUBLE. -/
def State.jacketTagInUse (s : State) (tag : Tag) : Bool :=
  tag.number != 0 && s.jacketWindow.any fun e => !e.double && e.tag == tag

/-- R136. -/
def applyJacketSeen (tag : Tag) (s : State) : State :=
  if Config.jacketWindowSize ≤ s.jacketWindow.length then misreport s
  else
    State.reevaluate Query.isFoldCall { s with jacketWindow := s.jacketWindow ++ [⟨tag, s.jacketTagInUse tag⟩] }

def execJacketSeenApplied (s : State) : Result :=
  .next (s.applyHead fun
    | .jacketSeen tag => some (applyJacketSeen tag)
    | _ => none)

/-- R19, R145: the counter of a delivery, by the finish. -/
def deliveryKind : Option Finish → Removal
  | some (.bare _) => .outBare
  | _ => .outJacketed

/-- R145. -/
def applyDelivered (n : Nat) (s : State) : State :=
  s.onVolumeIn n .jacketing fun v s => s.removeVolume (deliveryKind v.finish) v

def execDeliveredApplied (s : State) : Result :=
  .next (s.applyHead fun
    | .delivered n => some (applyDelivered n)
    | _ => none)

end Sys2Proof.Machine
end

