-- ==== Sys2Proof/Machine/TitleRequests.lean ====
section
/-! DEFINITION. The title requests (file 01, R7 to R17, R22). -/

namespace Sys2Proof.Machine

/-- R8: the process values as stored, in a record. -/
def storeProcess (p : ProcessGroup) (t : Title) : Title :=
  { t with
    band := bandOfByte p.band
    dwellBase := min p.dwellBase 600
    dwellSlope := min p.dwellSlope 50
    quota := p.quota }

/-- The geometry values as stored, in a record. -/
def storeGeometry (g : GeometryGroup) (t : Title) : Title :=
  { t with marry := (marryOfByte g.marry).getD .run, tNom := g.tNom, board := g.board, jacket := g.jacket }

/-- R11: a record as a TITLE_LOAD makes it, with nothing counted. -/
def emptyTitle (slot code : Nat) : Title where
  slot := slot
  code := code
  marry := .run
  tNom := 0
  board := 0
  jacket := none
  band := .standard
  dwellBase := 0
  dwellSlope := 0
  quota := 0
  hold := false
  retiring := false
  volumeCount := 0
  admitted := 0
  outJacketed := 0
  outBare := 0
  diverted := 0
  cleared := 0
  quotaReached := false

/-- R11: the new record. -/
def newTitle (slot code : Nat) (g : GeometryGroup) (p : ProcessGroup) : Title :=
  storeProcess p (storeGeometry g (emptyTitle slot code))

/-- R9, R7 steps 4 and 5: the geometry is in range and its nominal fold plan passes. -/
def geometryAcceptable (g : GeometryGroup) : Bool := geometryInRange g && nominalPlanPasses g

/-- R10: the slot a load takes, with the code of the title evicted for it. -/
def State.slotForLoad (s : State) : Option (Nat × Option Nat) :=
  match s.emptyTitleSlot with
  | some n => some (n, none)
  | none => s.evictable.map fun t => (t.slot, some t.code)

/-- R10: the title to be evicted is removed, and EVICTED fires. -/
def State.evict (victim : Option Nat) (s : State) : State :=
  match victim with
  | none => s
  | some c => State.raise .evicted (s.removeTitle c)

/-- R11: the changes of an accepted load; the volumes are bound in the order of the pre-press sequence. -/
def State.storeTitle (t : Title) (victim : Option Nat) (s : State) : State :=
  let s := s.evict victim
  let s := State.dropMiss t.code { s with titles := t :: s.titles }
  (s.waitingFor t.code).foldl (fun s v => s.bind v.number) s

/-- R97: a load that binds the caser's front evaluates a held CASE_CALL again. -/
def State.afterLoad (code : Nat) (s before : State) : State :=
  match before.caserFront with
  | none => s
  | some v => if v.state = .awaitTitle ∧ v.title = code then s.reevaluate Query.isCaseCall else s

/-- R8: OK_CLAMPED when a process value was clamped. -/
def clampedCode (p : Option ProcessGroup) : AnswerCode :=
  if (p.map processClamped).getD false then .okClamped else .ok

/-- R7. -/
def loadTitle (code : Nat) (g : GeometryGroup) (p : ProcessGroup) (s : State) : State × Answer :=
  if !goodTitleCode code then (s, refuse .titleLoad .badValue)
  else if (s.title? code).isSome then (s, refuse .titleLoad .duplicate)
  else if !geometryAcceptable g then (s, refuse .titleLoad .badValue)
  else match s.slotForLoad with
    | none => (s, refuse .titleLoad .tableFull)
    | some (slot, victim) =>
      ((s.storeTitle (newTitle slot code g p) victim).afterLoad code s,
        ⟨kindByte .titleLoad, clampedCode (some p), none,
          le 3 (victim.getD 0) ++ le 1 (s.waitingFor code).length⟩)

def execTitleLoad (code : Nat) (geometry : GeometryGroup) (process : ProcessGroup) (s : State) : Result :=
  .next (s.request (loadTitle code geometry process))

/-- R12: the record an accepted amend stores; a different run quota clears quota reached. -/
def amendTitle (p : Option ProcessGroup) (g : Option GeometryGroup) (t : Title) : Title :=
  let u := match g with
    | none => t
    | some g => storeGeometry g t
  match p with
  | none => u
  | some p => { storeProcess p u with quotaReached := u.quotaReached && p.quota == t.quota }

/-- A request that names a resident title (R1): BAD_VALUE for code 0, NOT_FOUND for one not resident. -/
def onTitle (k : Kind) (code : Nat) (f : Title → State → State × Answer) (s : State) : State × Answer :=
  if code = 0 then (s, refuse k .badValue)
  else match s.title? code with
    | none => (s, refuse k .notFound)
    | some t => f t s

/-- R12. -/
def amendRequest (code : Nat) (p : Option ProcessGroup) (g : Option GeometryGroup) (s : State) : State × Answer :=
  if p.isNone && g.isNone then (s, refuse .titleAmend .form)
  else onTitle .titleAmend code (fun t s =>
    if g.isSome && 0 < t.volumeCount then (s, refuse .titleAmend .inUse)
    else if !(g.map geometryAcceptable).getD true then (s, refuse .titleAmend .badValue)
    else ((s.updTitle code (amendTitle p g)).touchTitle code, ⟨kindByte .titleAmend, clampedCode p, none, []⟩)) s

def execTitleAmend (code : Nat) (process : Option ProcessGroup) (geometry : Option GeometryGroup) (s : State) : Result :=
  .next (s.request (amendRequest code process geometry))

/-- R13. -/
def holdRequest (code : Nat) : State → State × Answer :=
  onTitle .titleHold code fun t s =>
    if t.retiring then (s, refuse .titleHold .state)
    else (s.updTitle code fun t => { t with hold := true }, okAnswer .titleHold [])

def execTitleHold (code : Nat) (s : State) : Result := .next (s.request (holdRequest code))

/-- R13. -/
def freeRequest (code : Nat) : State → State × Answer :=
  onTitle .titleFree code fun _ s =>
    (s.updTitle code fun t => { t with hold := false }, okAnswer .titleFree [])

def execTitleFree (code : Nat) (s : State) : Result := .next (s.request (freeRequest code))

/-- R14; the outcome codes of R163 are 0 REMOVED and 1 RETIRING. -/
def retireRequest (code : Nat) : State → State × Answer :=
  onTitle .titleRetire code fun t s =>
    if t.volumeCount = 0 then (s.removeTitle code, okAnswer .titleRetire (le 1 0))
    else (s.updTitle code fun t => { t with hold := false, retiring := true }, okAnswer .titleRetire (le 1 1))

def execTitleRetire (code : Nat) (s : State) : Result := .next (s.request (retireRequest code))

/-- R16. -/
def purgeRequest (s : State) : State × Answer :=
  ({ s with titles := s.titles.filter fun t => titleState t != .dormant },
    okAnswer .titlePurge (le 1 (s.titlesIn .dormant)))

def execTitlePurge (s : State) : Result := .next (s.request purgeRequest)

/-- R17. -/
def readTitleRequest (code : Nat) : State → State × Answer :=
  onTitle .titleRead code fun t s => (s, okAnswer .titleRead (titleFields t (s.recencyDepth code)))

def execTitleRead (code : Nat) (s : State) : Result := .next (s.request (readTitleRequest code))

/-- R22. -/
def execMissRead (s : State) : Result := .next (s.request fun s => (s, okAnswer .missRead s.missFields))

end Sys2Proof.Machine
end

