-- ==== Sys2Proof/Machine/VolumeRequests.lean ====
section
/-! DEFINITION. The volume requests (file 03, R61 to R63). -/

namespace Sys2Proof.Machine

/-- A request that names a volume number (R61, R62): BAD_VALUE above 63, NOT_FOUND for a free slot. -/
def onVolume (k : Kind) (n : Nat) (f : Volume → State → State × Answer) (s : State) : State × Answer :=
  if Config.volumeSlots ≤ n then (s, refuse k .badValue)
  else match s.volume? n with
    | none => (s, refuse k .notFound)
    | some v => f v s

/-- R62. -/
def readVolumeRequest (n : Nat) : State → State × Answer :=
  onVolume .volumeRead n fun v s => (s, okAnswer .volumeRead (s.volumeFields v))

def execVolumeRead (volume : Nat) (s : State) : Result := .next (s.request (readVolumeRequest volume))

/-- R63: the volume number, followed by the content of a VOLUME_READ of that number. -/
def findVolumeRequest (serial : Nat) (s : State) : State × Answer :=
  match s.volumes.find? fun v => v.serial == serial with
  | none => (s, refuse .volumeFind .notFound)
  | some v => (s, okAnswer .volumeFind (le 1 v.number ++ s.volumeFields v))

def execVolumeFind (serial : Nat) (s : State) : Result := .next (s.request (findVolumeRequest serial))

/-- R61. -/
def writeoffRequest (n : Nat) : State → State × Answer :=
  onVolume .volumeWriteoff n fun v s =>
    if v.state = .missing then (s.removeVolume .diverted v, okAnswer .volumeWriteoff [])
    else (s, refuse .volumeWriteoff .state)

def execVolumeWriteoff (volume : Nat) (s : State) : Result := .next (s.request (writeoffRequest volume))

end Sys2Proof.Machine
end

