-- ==== Sys2Proof/Machine/Dispatch.lean ====
section
/-! DEFINITION. The dispatch of the commands to their meanings: one arm for each row of the table. -/

namespace Sys2Proof.Machine

def exec (i : Instr) (s : State) : Host.Outcome State Fault Refusal :=
  match i with
  | .deviceReset => Sys2Proof.Machine.execDeviceReset s
  | .profileLoad acknowledged => Sys2Proof.Machine.execProfileLoad acknowledged s
  | .badFrame p cause => Sys2Proof.Machine.execBadFrame p cause s
  | .frameRefused p kind tag body => Sys2Proof.Machine.execFrameRefused p kind tag body s
  | .answerSend l => Sys2Proof.Machine.execAnswerSend l s
  | .answerCollision l sent => Sys2Proof.Machine.execAnswerCollision l sent s
  | .answerRead clocked => Sys2Proof.Machine.execAnswerRead clocked s
  | .caseSeen l title number => Sys2Proof.Machine.execCaseSeen l title number s
  | .cased l volume => Sys2Proof.Machine.execCased l volume s
  | .caseSpoiled l volume => Sys2Proof.Machine.execCaseSpoiled l volume s
  | .bayClosed l bay => Sys2Proof.Machine.execBayClosed l bay s
  | .bayCleared l bay => Sys2Proof.Machine.execBayCleared l bay s
  | .bayFault l bay => Sys2Proof.Machine.execBayFault l bay s
  | .jacketSeen l title unit => Sys2Proof.Machine.execJacketSeen l title unit s
  | .delivered l volume => Sys2Proof.Machine.execDelivered l volume s
  | .caseSeenApplied => Sys2Proof.Machine.execCaseSeenApplied s
  | .casedApplied => Sys2Proof.Machine.execCasedApplied s
  | .caseSpoiledApplied => Sys2Proof.Machine.execCaseSpoiledApplied s
  | .bayClosedApplied => Sys2Proof.Machine.execBayClosedApplied s
  | .bayClearedApplied => Sys2Proof.Machine.execBayClearedApplied s
  | .bayFaultApplied => Sys2Proof.Machine.execBayFaultApplied s
  | .jacketSeenApplied => Sys2Proof.Machine.execJacketSeenApplied s
  | .deliveredApplied => Sys2Proof.Machine.execDeliveredApplied s
  | .entry l serial raw => Sys2Proof.Machine.execEntry l serial raw s
  | .caseCall l => Sys2Proof.Machine.execCaseCall l s
  | .nextMove l => Sys2Proof.Machine.execNextMove l s
  | .gauge l tagRead title number raw => Sys2Proof.Machine.execGauge l tagRead title number raw s
  | .foldCall l => Sys2Proof.Machine.execFoldCall l s
  | .holdLimitExpiry l => Sys2Proof.Machine.execHoldLimitExpiry l s
  | .dwellExpiry b => Sys2Proof.Machine.execDwellExpiry b s
  | .overdwellExpiry b => Sys2Proof.Machine.execOverdwellExpiry b s
  | .idleTimerExpiry => Sys2Proof.Machine.execIdleTimerExpiry s
  | .recoveryPeriodEnd => Sys2Proof.Machine.execRecoveryPeriodEnd s
  | .glueReadyChange asserted => Sys2Proof.Machine.execGlueReadyChange asserted s
  | .platenLowChange asserted => Sys2Proof.Machine.execPlatenLowChange asserted s
  | .platenColdChange asserted => Sys2Proof.Machine.execPlatenColdChange asserted s
  | .guardOpenChange asserted => Sys2Proof.Machine.execGuardOpenChange asserted s
  | .titleLoad code geometry process => Sys2Proof.Machine.execTitleLoad code geometry process s
  | .titleAmend code process geometry => Sys2Proof.Machine.execTitleAmend code process geometry s
  | .titleHold code => Sys2Proof.Machine.execTitleHold code s
  | .titleFree code => Sys2Proof.Machine.execTitleFree code s
  | .titleRetire code => Sys2Proof.Machine.execTitleRetire code s
  | .titlePurge => Sys2Proof.Machine.execTitlePurge s
  | .titleRead code => Sys2Proof.Machine.execTitleRead code s
  | .missRead => Sys2Proof.Machine.execMissRead s
  | .rangeSet index base sizeClass code unitBase => Sys2Proof.Machine.execRangeSet index base sizeClass code unitBase s
  | .rangeClear index => Sys2Proof.Machine.execRangeClear index s
  | .rangeRead q => Sys2Proof.Machine.execRangeRead q s
  | .volumeRead volume => Sys2Proof.Machine.execVolumeRead volume s
  | .volumeFind serial => Sys2Proof.Machine.execVolumeFind serial s
  | .volumeWriteoff volume => Sys2Proof.Machine.execVolumeWriteoff volume s
  | .bayService bay direction => Sys2Proof.Machine.execBayService bay direction s
  | .bayRead q => Sys2Proof.Machine.execBayRead q s
  | .paceSet pace => Sys2Proof.Machine.execPaceSet pace s
  | .paceRelease => Sys2Proof.Machine.execPaceRelease s
  | .statusRead => Sys2Proof.Machine.execStatusRead s
  | .noticeEnable mask => Sys2Proof.Machine.execNoticeEnable mask s
  | .noticeClear mask => Sys2Proof.Machine.execNoticeClear mask s
  | .noticeRead => Sys2Proof.Machine.execNoticeRead s
  | .profileSet sectionNo fields => Sys2Proof.Machine.execProfileSet sectionNo fields s
  | .profileRead sectionNo => Sys2Proof.Machine.execProfileRead sectionNo s
  | .profileSave => Sys2Proof.Machine.execProfileSave s
  | .profileSaveDone => Sys2Proof.Machine.execProfileSaveDone s
  | .profileSaveFailed acknowledged => Sys2Proof.Machine.execProfileSaveFailed acknowledged s
  | .lineClear => Sys2Proof.Machine.execLineClear s

end Sys2Proof.Machine
end

