-- ==== Sys2Proof/Machine/Step.lean ====
section
/-! DEFINITION. One step of the block: the command at the front of the queue, or a tick of the clock. -/

namespace Sys2Proof.Machine

/-- Log entry 2: with no command waiting, one millisecond passes and nothing else changes. -/
def State.tick (s : State) : State := { s with clock := s.clock + 1 }

/-- One step: the command at the front of the queue is carried out on the state with the queue's rest (log entry 1);
on an empty queue the clock ticks. -/
def step (s : State) : Host.Outcome State Fault Refusal :=
  match s.pending with
  | [] => .next s.tick
  | i :: rest => exec i { s with pending := rest }

/-- The command a word spells by the table's bits, put at the front of the queue; the table gives no row any bits. -/
def State.withFetchWord (s : State) (nbits w : Nat) : State :=
  match decodeTableWord nbits w with
  | none => s
  | some i => { s with pending := i :: s.pending }

end Sys2Proof.Machine
end

