-- ==== Sys2Proof/Safety.lean ====
section
/-! DEFINITION. What holds of the part whatever commands it takes: the promises the chapters make about the tables,
the counts, the bays, the tags and the pace; and the conditions under which a frame or a request is taken. -/

namespace Sys2Proof.Machine

/-! ### Bounds (R1, R21, R25, R37, R83, R103, R135, R168) -/

/-- The lists of the part are as long as their chapters say, and its slots and numbers are distinct. -/
structure State.TablesBounded (s : State) : Prop where
  titles : s.titles.length ≤ 48
  titleSlots : ∀ t ∈ s.titles, t.slot < 48
  titleSlotsDistinct : (s.titles.map Title.slot).Nodup
  titleCodesDistinct : (s.titles.map Title.code).Nodup
  missList : s.missList.length ≤ 8
  ranges : s.ranges.length = 32
  volumes : s.volumes.length ≤ 64
  volumeNumbers : ∀ v ∈ s.volumes, v.number < 64
  volumeNumbersDistinct : (s.volumes.map Volume.number).Nodup
  serialsDistinct : (s.volumes.map Volume.serial).Nodup
  caseWindow : s.caseWindow.length ≤ 8
  jacketWindow : s.jacketWindow.length ≤ 4
  bays : s.bays.length = 16
  reports : s.reports.length ≤ 32
  stations : s.stations.length = 5

/-! ### Counts (R3, R4, R18, R40) -/

/-- A volume is bound to the title of this code. -/
def boundTo (code : Nat) (v : Volume) : Bool := v.bound.isSome && v.title == code

/-- R18, R4, R5: the volume count of every resident title is the number of volumes bound to it; a bound volume's
title is resident; a RETIRING title has a volume and a clear hold flag. -/
structure State.TitlesCounted (s : State) : Prop where
  codesDistinct : (s.titles.map Title.code).Nodup
  numbersDistinct : (s.volumes.map Volume.number).Nodup
  waitingUnbound : ∀ v ∈ s.volumes, v.state = .awaitTitle → v.bound = none
  boundResident : ∀ v ∈ s.volumes, v.bound.isSome → ∃ t ∈ s.titles, t.code = v.title
  count : ∀ t ∈ s.titles, t.volumeCount = s.volumes.countP (boundTo t.code)
  retiring : ∀ t ∈ s.titles, t.retiring → 0 < t.volumeCount ∧ t.hold = false

/-- R3: admitted is the volume count and the four counters of removals together, while none has reached its
maximum. -/
def Title.Balanced (t : Title) : Prop :=
  t.admitted < Config.counterMax → t.outJacketed < Config.counterMax → t.outBare < Config.counterMax →
    t.diverted < Config.counterMax → t.cleared < Config.counterMax →
      t.admitted = t.volumeCount + t.outJacketed + t.outBare + t.diverted + t.cleared

/-- R3 for every resident title. -/
structure State.TitlesBalanced (s : State) : Prop where
  counted : s.TitlesCounted
  balanced : ∀ t ∈ s.titles, t.Balanced

/-! ### Ranges (R25, R31) -/

/-- R25: what an enabled entry holds. -/
def RangeEntry.Sound (e : RangeEntry) : Prop :=
  4 ≤ e.sizeClass ∧ e.sizeClass ≤ 24 ∧ e.base % 2 ^ e.sizeClass = 0 ∧ e.base ≤ 4294967295
    ∧ 1 ≤ e.code ∧ e.code ≤ 16777215 ∧ e.unitBase ≤ 16777215

/-- R31: two entries do not cover the same run. -/
def RangeEntry.Apart (a b : RangeEntry) : Prop :=
  a.enabled → b.enabled → a.sizeClass = b.sizeClass → a.base ≠ b.base

/-- R25, R31: the enabled entries of the range map. -/
structure State.RangesSound (s : State) : Prop where
  sound : ∀ e ∈ s.ranges, e.enabled → e.Sound
  apart : s.ranges.Pairwise RangeEntry.Apart

/-! ### Bays and volumes (R105) -/

/-- R105: the state of the volume a bay holds. -/
def heldState : BayState → Option VolumeState
  | .reserved => some .loading
  | .closed => some .pressing
  | .done => some .pressed
  | .emptying => some .unloading
  | _ => none

/-- R105: the states in which a volume stands in a bay. -/
def VolumeState.inBay : VolumeState → Bool
  | .loading => true
  | .pressing => true
  | .pressed => true
  | .unloading => true
  | _ => false

/-- R104: a bay record holds a volume exactly in the occupied states. -/
def Bay.Filled (r : Bay) : Prop := r.volume.isSome ↔ (heldState r.state).isSome

/-- R105: bays and volumes reference each other, in the states that belong together. -/
structure State.PressLinked (s : State) : Prop where
  numbers : ∀ v ∈ s.volumes, v.number < 64
  numbersDistinct : (s.volumes.map Volume.number).Nodup
  filled : ∀ r ∈ s.bays, r.Filled
  bayToVolume : ∀ b r n, s.bays[b]? = some r → r.volume = some n →
    ∃ v ∈ s.volumes, v.number = n ∧ v.bay = some b ∧ heldState r.state = some v.state
  volumeToBay : ∀ v ∈ s.volumes, ∀ b, v.bay = some b →
    ∃ r, s.bays[b]? = some r ∧ r.volume = some v.number
  inBay : ∀ v ∈ s.volumes, v.state.inBay = v.bay.isSome

/-! ### The post-press sequence (R47) -/

/-- R47: the states of the post-press sequence. -/
def VolumeState.isPostPress : VolumeState → Bool
  | .unloading => true
  | .onOutfeed => true
  | .awaitJacket => true
  | .jacketing => true
  | _ => false

/-- R47: the volume of this number stands in the passed part. -/
def State.Passed (s : State) (n : Nat) : Prop := ∃ v ∈ s.volumes, v.number = n ∧ v.state.isPassed = true

/-- R47: the post-press sequence holds, without repeats, exactly the volumes in its four states, and the passed part
stands in front of the unpassed one. -/
structure State.PostPressSound (s : State) : Prop where
  linked : s.PressLinked
  distinct : s.postPress.Nodup
  holds : ∀ n, n ∈ s.postPress ↔ ∃ v ∈ s.volumes, v.number = n ∧ v.state.isPostPress = true
  passedInFront : s.postPress.Pairwise fun m n => s.Passed n → s.Passed m

/-! ### Flags of a waiting volume (R39, R40) -/

/-- R39, R40: a volume in AWAIT_TITLE has not been bound, and its UNGAUGED flag is clear. -/
def State.WaitersUngauged (s : State) : Prop := ∀ v ∈ s.volumes, v.state = .awaitTitle → v.ungauged = false

/-! ### The miss list (R21, R53) -/

/-- R21, R53: the codes on the miss list are those the volumes in AWAIT_TITLE carry, each once, none resident. -/
structure State.MissesSound (s : State) : Prop where
  linked : s.PressLinked
  unbound : ∀ v ∈ s.volumes, v.state = .awaitTitle → v.bound = none
  distinct : s.missList.Nodup
  absent : ∀ c ∈ s.missList, s.title? c = none
  carried : ∀ c ∈ s.missList, ∃ v ∈ s.volumes, v.state = .awaitTitle ∧ v.title = c
  listed : ∀ v ∈ s.volumes, v.state = .awaitTitle → v.title ∈ s.missList

/-! ### Case tags (R85) -/

/-- R85: the tags in use: those of the case window entries clear of DOUBLE and those of the volume records. -/
def State.tagsInUse (s : State) : List Tag :=
  (s.caseWindow.filter fun e => !e.double).map WindowEntry.tag ++ s.volumes.filterMap Volume.caseTag

/-- R85: no case tag is in use twice. -/
structure State.TagsDistinct (s : State) : Prop where
  numbersDistinct : (s.volumes.map Volume.number).Nodup
  distinct : s.tagsInUse.Nodup

/-! ### Pace (R147, R149, R160) -/

/-- R147: the effective pace is the lowest of its inputs; while the profile is loading the request is STOP (R160). -/
structure State.PaceSettled (s : State) : Prop where
  lowest : s.governor.effective = s.lowestPace
  loading : s.phase = .loading → s.governor.requested = .stop

/-! ### Supervisor requests and station frames -/

/-- R175, R179: a supervisor request is taken. -/
def State.Awaiting (s : State) : Prop := s.phase = .running ∧ s.supervisor.slot = .empty

/-- R175, R176: the state after a request that left the blocks in `t` and was answered `a`: the answer stands in the
slot with its first part to read, and the write shifted out the state byte of an EMPTY slot. -/
def State.answered (a : Answer) (t : State) : State := { t with supervisor := ⟨.holding a 0, [0x00#8]⟩ }

/-- R165 step 3, R179: a station frame of a kind reaches its owning rule. -/
def State.Hears (s : State) (l : Line) (k : Kind) : Prop := s.phase = .running ∧ kindOwner k = some (s.roleOf l)

/-- R167: no answer made at the arrival of a frame stands unsent on the line. -/
def State.Free (s : State) (l : Line) : Prop := s.immediatePending l = false

/-- R170: no query of a kind stands HELD in any slot. -/
def State.NoneHeld (s : State) (isKind : Query → Bool) : Prop := s.heldQuery isKind = none

/-- R170: no query of the line waits BEHIND its reports. -/
def State.NoneBehind (s : State) (l : Line) : Prop := ∀ h n, (s.station l).slot ≠ .behind h n

/-- R175: the state in which the owning block carries out a request: the answer slot is WORKING, and the write
shifted out the state byte of an EMPTY slot. -/
def State.taken (s : State) : State := { s with supervisor := ⟨.working, [0x00#8]⟩ }

/-! ### Station messages (R84, R99, R100, R113, R116, R117, R128, R136, R145, R48) -/

/-- The form check of the owning rule of a station message. -/
def goodForm : Instr → Bool
  | .caseSeen _ title number => title != 0 && number ≤ 1048575
  | .cased _ v => v ≤ 63
  | .caseSpoiled _ v => v ≤ 63
  | .bayClosed _ b => b ≤ 15
  | .bayCleared _ b => b ≤ 15
  | .bayFault _ b => b ≤ 15
  | .jacketSeen _ title _ => title != 0
  | .delivered _ v => v ≤ 63
  | .entry _ _ raw => raw ≤ 2047
  | .gauge _ read title number raw =>
    raw ≤ 2047 && (read == 0 || (read == 1 && title != 0 && number ≤ 1048575))
  | _ => true

/-- The line, the kind and the content of a report as it arrives (R168). -/
def reportOf : Instr → Option (Line × Kind × Report)
  | .caseSeen l title number => some (l, .caseSeen, .caseSeen ⟨title, number⟩)
  | .cased l v => some (l, .cased, .cased v)
  | .caseSpoiled l v => some (l, .caseSpoiled, .caseSpoiled v)
  | .bayClosed l b => some (l, .bayClosed, .bayClosed b)
  | .bayCleared l b => some (l, .bayCleared, .bayCleared b)
  | .bayFault l b => some (l, .bayFault, .bayFault b)
  | .jacketSeen l title unit => some (l, .jacketSeen, .jacketSeen ⟨title, unit⟩)
  | .delivered l v => some (l, .delivered, .delivered v)
  | _ => none

/-- The line and the kind of a query as it arrives (R170). -/
def queryOf : Instr → Option (Line × Kind)
  | .entry l _ _ => some (l, .entry)
  | .caseCall l => some (l, .caseCall)
  | .nextMove l => some (l, .nextMove)
  | .gauge l _ _ _ _ => some (l, .gauge)
  | .foldCall l => some (l, .foldCall)
  | _ => none

/-- R170: a query of the kind reaches an EMPTY slot of its line with no report of the line standing ahead of it. -/
def State.Asks (s : State) (l : Line) (k : Kind) : Prop :=
  s.Hears l k ∧ (s.station l).slot = .empty ∧ s.postedBy l = 0

/-- R90, R49: at HOLD and STOP no block is admitted or cased. -/
def State.Halted (s : State) : Prop := s.governor.effective = .hold ∨ s.governor.effective = .stop

/-! ### The working profile (section 10.3) -/

/-- Section 10.3, R187: every field of the profile is in its range, each group's minimum is at most its maximum, and
no role other than NONE stands twice. -/
structure Profile.Legal (p : Profile) : Prop where
  roles : p.roles.length = 5
  assignment : p.assignment.length = 16
  jaws : p.jaws.length = 4
  fields : ∀ n ≤ 3, sectionAcceptable n (sectionValues p n) = true

/-- R188: while a save is WRITING the store's marker is not valid. -/
def State.SaveGuarded (s : State) : Prop := s.profileStatus.writing = true → s.store.marker ≠ 0x5A#8

end Sys2Proof.Machine
end

