-- ==== Sys2Proof/Certificates/Slice0/Obligations.lean ====
section
/-! DEFINITION. The statements about the part, grouped as the chapters are. Each says, in its conclusion, the next
state of the commands it names (so that what it does not name is unchanged), or a property of every state. A station
answer is stated by the operation that puts it on its line (`State.pushAnswer` at a frame's arrival, `State.answerSlot`
for the query of a slot), and a supervisor request by `State.answered` over the state its block leaves. -/

open Sys2Proof Sys2Proof.Machine

/-! ### Steps, device reset and the working profile -/

/-- A step carries out the command at the front of the queue on the state with the queue's rest. -/
def Obligations.StepRunsFrontCommand : Prop :=
  ∀ (c : Instr) (rest : List Instr) (s : State),
    s.pending = c :: rest → step s = exec c { s with pending := rest }

/-- The model's choice (log entry 2): with no command waiting, a step is one millisecond of the running clock, and
nothing else changes. -/
def Obligations.IdleStepTicksClock : Prop :=
  ∀ s : State, s.pending = [] → step s = .next { s with clock := s.clock + 1 }

/-- Every command of every row, with any operands and in any state, answers a next state, and leaves the queue of
waiting commands as it was. That an event which cannot occur in a state leaves it as it is, and that a command has a
meaning for operands no frame can carry, is the model's choice (log entries 4 and 22). -/
def Obligations.EveryCommandCompletes : Prop :=
  ∀ (c : Instr) (s : State), ∃ t, exec c s = .next t ∧ t.pending = s.pending

/-- DEVICE_RESET: every record of every block at its reset value; ATTENTION and READY low and the pace lines 000. The
store keeps its bytes, or is left with its marker invalid where a write was going on. The case skip limit and the wait
limit are unchanged (R102). That the levels of the condition lines are kept is the model's choice (log entry 7), and so
is it that the whole working profile stands until the load (log entry 30). -/
def Obligations.DeviceResetClearsEveryBlock : Prop :=
  ∀ s : State, ∃ t, exec .deviceReset s = .next t ∧ t.phase = .loading ∧ t.clock = 0 ∧ t.titles = [] ∧ t.missList = []
    ∧ t.ranges = List.replicate 32 ⟨false, 0, 0, 0, 0⟩ ∧ t.volumes = [] ∧ t.postPress = []
    ∧ t.caseWindow = [] ∧ t.jacketWindow = []
    ∧ t.bays = List.replicate 16 ⟨.vacant, none, some 0, none, none, none, false, false⟩
    ∧ t.governor = ⟨.stop, .stop, false, false, .run, none, .idle, s.governor.lines⟩ ∧ t.paceLines = 0b000#3
    ∧ t.reports = [] ∧ t.stations = List.replicate 5 ⟨.empty, [], []⟩ ∧ t.supervisor = ⟨.empty, []⟩ ∧ t.ready = false
    ∧ t.notices = ⟨0#14, 0#14⟩ ∧ t.attention = false ∧ t.conditions = 0#14
    ∧ t.profile = s.profile ∧ t.profileStatus.save = .idle ∧ t.profileStatus.lastSave = .none
    ∧ (s.profileStatus.writing = false → t.store = s.store ∧ t.draws = s.draws)
    ∧ (s.profileStatus.writing = true → t.store.marker ≠ 0x5A#8) ∧ t.pending = s.pending

/-- PROFILE_LOAD after a device reset: where the working profile comes from, its status, and the governor's first
reading of the condition lines. Where no enable is set the load marks no notice. -/
def Obligations.ProfileLoadTakesUpProfile : Prop :=
  ∀ (s : State) (ack : Bool), s.phase = .loading →
    ∃ t, exec (.profileLoad ack) s = .next t
      ∧ (ack = false → t.profile = Profile.default ∧ t.profileStatus = ⟨.noStore, 43, .idle, .none⟩)
      ∧ (ack = true → s.store.marker ≠ 0x5A#8 →
          t.profile = Profile.default ∧ t.profileStatus = ⟨.defaults, 43, .idle, .none⟩)
      ∧ (ack = true → s.store.marker = 0x5A#8 → t.profile = profileFromCopy s.store.copy
          ∧ t.profileStatus = ⟨.stored, defaultedFields s.store.copy, .idle, .none⟩)
      ∧ t.governor = { s.governor with
          guardLatch := s.governor.guardLatch || s.governor.lines.guardOpen
          glueLatch := s.governor.glueLatch || (!s.governor.lines.glueReady && t.profile.glueLatch)
          recovery := if s.governor.lines.platenLow && t.profile.cycling
            then .slow (s.clock + t.profile.slowPeriod * 1000) else s.governor.recovery
          effective := t.lowestPace }
      ∧ t.notices.enables = s.notices.enables ∧ (s.notices.enables = 0#14 → t.notices.flags = s.notices.flags)
      ∧ t = { s with phase := .running, profile := t.profile, profileStatus := t.profileStatus,
                     governor := t.governor, notices := t.notices }

/-- A stored field in its range is taken and one out of its range takes its default, each at its place in the stored
copy. The five roles take their defaults together where one role other than NONE would stand on two lines, and a jaw
group takes both its defaults where its minimum would exceed its maximum (that this is judged on the stored values and
again once a default stands in: log entry 11). The count of defaulted fields is the number of fields that took their
default, five for the roles together and two for a group. Whatever bytes the store holds, the working profile loaded
from them is legal: in range field by field, each group's limits in order, no role twice. -/
def Obligations.StoredProfileIsJudged : Prop :=
  (∀ copy : List Byte, copy.length = 56 →
    let at1 := fun i => (copy.getD i 0#8).toNat
    let at2 := fun i => (copy.getD i 0#8).toNat + 256 * (copy.getD (i + 1) 0#8).toNat
    let p := profileFromCopy copy
    let role := fun i => if at1 i ≤ 5 then at1 i else i + 1
    let roleOf := fun n => [Role.none, .infeed, .caser, .shuttle, .outfeed, .jacketer].getD n .none
    let clash := ∃ i < 5, ∃ j < 5, i ≠ j ∧ role i = role j ∧ role i ≠ 0
    let group := fun i => if at1 (5 + i) ≤ 4 then at1 (5 + i) else i / 4 + 1
    let least := fun g => at2 (21 + 4 * g)
    let greatest := fun g => at2 (23 + 4 * g)
    let dLeast := fun g => [30, 140, 300, 600].getD g 0
    let dGreatest := fun g => [160, 320, 620, 1130].getD g 0
    let loLeast := fun g => if 10 ≤ least g ∧ least g ≤ 1200 then least g else dLeast g
    let loGreatest := fun g => if 10 ≤ greatest g ∧ greatest g ≤ 1200 then greatest g else dGreatest g
    let crossed := fun g => greatest g < least g ∨ loGreatest g < loLeast g
    let out := fun (x a b : Nat) => if a ≤ x ∧ x ≤ b then 0 else 1
    (clash → p.roles = [.infeed, .caser, .shuttle, .outfeed, .jacketer])
      ∧ (¬ clash → p.roles = (List.range 5).map fun i => roleOf (role i))
      ∧ p.assignment = ((List.range 16).map fun i => [none, some .a, some .b, some .c, some .d].getD (group i) none)
      ∧ p.jaws = ((List.range 4).map fun g =>
          if crossed g then ⟨dLeast g, dGreatest g⟩ else ⟨loLeast g, loGreatest g⟩)
      ∧ p.unloadAge = (if 5 ≤ at2 37 ∧ at2 37 ≤ 300 then at2 37 else 30)
      ∧ p.overdwell = (if 5 ≤ at2 39 ∧ at2 39 ≤ 300 then at2 39 else 30)
      ∧ defaultedFields copy = (if clash then 5 else ((List.range 5).map fun i => out (at1 i) 0 5).sum)
        + ((List.range 16).map fun i => out (at1 (5 + i)) 0 4).sum
        + ((List.range 4).map fun g =>
            if crossed g then 2 else out (least g) 10 1200 + out (greatest g) 10 1200).sum
        + out (at2 37) 5 300 + out (at2 39) 5 300 + out (at1 41) 0 7 + out (at1 42) 0 3 + out (at2 43) 50 1000
        + out (at1 45) 1 255 + out (at2 46) 5 600 + out (at2 48) 5 600 + out (at1 50) 0 1
        + (if at1 51 ∈ [4, 8, 16, 32] then 0 else 1) + (if at1 52 ∈ [1, 2, 4, 8] then 0 else 1)
        + out (at1 53) 0 1 + out (at1 54) 0 8 + out (at1 55) 32 64
      ∧ p.caseSkip = (if at1 41 ≤ 7 then at1 41 else 3) ∧ p.jacketSkip = (if at1 42 ≤ 3 then at1 42 else 1)
      ∧ p.holdLimit = (if 50 ≤ at2 43 ∧ at2 43 ≤ 1000 then at2 43 else 200)
      ∧ p.waitLimit = (if 1 ≤ at1 45 then at1 45 else 16)
      ∧ p.idle1 = (if 5 ≤ at2 46 ∧ at2 46 ≤ 600 then at2 46 else 20)
      ∧ p.idle2 = (if 5 ≤ at2 48 ∧ at2 48 ≤ 600 then at2 48 else 60)
      ∧ p.cycling = (at1 50 == 1)
      ∧ p.fastPeriod = (if at1 51 ∈ [4, 8, 16, 32] then at1 51 else 8)
      ∧ p.slowPeriod = (if at1 52 ∈ [1, 2, 4, 8] then at1 52 else 2)
      ∧ p.glueLatch = (at1 53 != 0)
      ∧ p.lowWater = (if at1 54 ≤ 8 then at1 54 else 2)
      ∧ p.highWater = (if 32 ≤ at1 55 ∧ at1 55 ≤ 64 then at1 55 else 56))
    ∧ (∀ copy : List Byte, (profileFromCopy copy).Legal)

/-- A legal working profile that was saved to the end comes back whole from a device reset and the load after it, with
no field defaulted. PROFILE_SAVE makes the marker of the store invalid and keeps its fields; the two ends of its
write. A failure at the first stage leaves the store as it was before the save. An unfinished write (a failure past the
first stage, or a device reset) leaves a store that loads the defaults. That the marker is invalid from the acceptance
on, and that the operand of a failure counts acknowledged bytes, is log entry 10; the bytes after a device reset are a
free value (log entry 9). -/
def Obligations.ProfileStoreKeepsProfile : Prop :=
  (∀ s : State, s.profile.Legal → s.profileStatus.writing = true →
    ∃ s1 s2 s3, exec .profileSaveDone s = .next s1 ∧ exec .deviceReset s1 = .next s2
      ∧ exec (.profileLoad true) s2 = .next s3 ∧ s3.profile = s.profile
      ∧ s3.profileStatus = ⟨.stored, 0, .idle, .none⟩)
    ∧ ((∀ s : State, s.Awaiting → s.profileStatus.writing = true →
      exec .profileSave s = .next (State.answered (busyAnswer .profileSave) s))
    ∧ (∀ s : State, s.Awaiting → s.profileStatus.writing = false →
      exec .profileSave s = .next (State.answered (okAnswer .profileSave [])
        { s with
          store := ⟨0x00#8, s.store.copy⟩
          profileStatus := { s.profileStatus with save := .writing s.store.marker } }))
    ∧ (∀ s : State, s.profileStatus.writing = true →
      exec .profileSaveDone s = .next { s with
        store := ⟨0x5A#8, profileBytes s.profile⟩
        profileStatus := { s.profileStatus with save := .idle, lastSave := .done } })
    ∧ (∀ (s : State) (earlier : Byte), s.profileStatus.save = .writing earlier →
      exec (.profileSaveFailed 0) s = .next (State.raise .profile { s with
        store := ⟨earlier, s.store.copy⟩
        profileStatus := { s.profileStatus with save := .idle, lastSave := .storeFailed } }))
    ∧ (∀ s : State, s.Awaiting → s.profileStatus.writing = false →
      ∃ t u, exec .profileSave s = .next t ∧ exec (.profileSaveFailed 0) t = .next u ∧ u.store = s.store)
    ∧ (∀ (s : State) (n : Nat), s.profileStatus.writing = true → 1 ≤ n →
      ∃ c, exec (.profileSaveFailed n) s = .next (State.raise .profile { s with
        store := ⟨0x00#8, c⟩
        profileStatus := { s.profileStatus with save := .idle, lastSave := .storeFailed } }))
    ∧ (∀ s t : State, s.profileStatus.writing = true → exec .deviceReset s = .next t →
      ∃ u, exec (.profileLoad true) t = .next u ∧ u.profile = Profile.default
        ∧ u.profileStatus = ⟨.defaults, 43, .idle, .none⟩))

/-- PROFILE_SET in the order of its checks, and PROFILE_READ. An accepted section is stored whole and read back as it
was sent; each block then takes it up (`State.takeProfile`: what that is for each section is stated apart). The fields
of each section, where they stand in its bytes, and when they are acceptable: each in its range, no role other than
NONE on two lines, and each jaw group's minimum at most its maximum. (The places of the status bytes of PROFILE_READ:
log entry 17.) -/
def Obligations.ProfileSetAndReadSections : Prop :=
  (∀ (s : State) (n : Nat) (fields : List Byte), s.Awaiting → n ≤ 3 → fields.length = sectionLength n →
      (s.profileStatus.writing = true →
        exec (.profileSet n fields) s = .next (State.answered (busyAnswer .profileSet) s))
      ∧ (s.profileStatus.writing = false → (s.governor.effective ≠ .stop ∨ ∃ r ∈ s.bays, r.state = .closed) →
        exec (.profileSet n fields) s = .next (State.answered (refuse .profileSet .notStopped) s))
      ∧ (s.profileStatus.writing = false → s.governor.effective = .stop → (∀ r ∈ s.bays, r.state ≠ .closed) →
        (sectionAcceptable n (readFields (sectionWidths n) fields) = false →
          exec (.profileSet n fields) s = .next (State.answered (refuse .profileSet .badValue) s))
        ∧ (sectionAcceptable n (readFields (sectionWidths n) fields) = true →
          ∃ p, sectionBytes p n = fields ∧ (∀ m ≤ 3, m ≠ n → sectionBytes p m = sectionBytes s.profile m)
            ∧ exec (.profileSet n fields) s = .next (State.answered (okAnswer .profileSet [])
              (State.takeProfile n s.profile { s.taken with profile := p })))))
    ∧ (∀ (s : State) (n : Nat), s.Awaiting → n ≤ 3 →
      exec (.profileRead n) s = .next (State.answered (okAnswer .profileRead (sectionBytes s.profile n ++ pack
        [(1, loadOutcomeCode s.profileStatus.loadOutcome), (1, s.profileStatus.defaulted),
         (1, if s.profileStatus.writing then 1 else 0), (1, saveResultCode s.profileStatus.lastSave)])) s))
    ∧ (∀ (s : State) (n : Nat), s.Awaiting → 3 < n →
      exec (.profileRead n) s = .next (State.answered (refuse .profileRead .badValue) s))
    ∧ (∀ fields : List Byte,
      let at1 := fun i => (fields.getD i 0#8).toNat
      let at2 := fun i => (fields.getD i 0#8).toNat + 256 * (fields.getD (i + 1) 0#8).toNat
      (fields.length = 5 → readFields (sectionWidths 0) fields = (List.range 5).map at1)
        ∧ (fields.length = 36 → readFields (sectionWidths 1) fields
          = (List.range 16).map at1 ++ (List.range 10).map fun i => at2 (16 + 2 * i))
        ∧ (fields.length = 5 → readFields (sectionWidths 2) fields = [at1 0, at1 1, at2 2, at1 4])
        ∧ (fields.length = 10 → readFields (sectionWidths 3) fields
          = [at2 0, at2 2, at1 4, at1 5, at1 6, at1 7, at1 8, at1 9]))
    ∧ ∀ vals : List Nat,
      let v := fun i => vals.getD i 0
      let within := fun a i b => a ≤ v i ∧ v i ≤ b
      (vals.length = 5 → (sectionAcceptable 0 vals = true ↔
        (∀ i < 5, v i ≤ 5) ∧ ∀ i < 5, ∀ j < 5, i ≠ j → v i = v j → v i = 0))
        ∧ (vals.length = 26 → (sectionAcceptable 1 vals = true ↔
          (∀ i < 16, v i ≤ 4) ∧ (∀ i, 16 ≤ i → i < 24 → within 10 i 1200)
            ∧ v 16 ≤ v 17 ∧ v 18 ≤ v 19 ∧ v 20 ≤ v 21 ∧ v 22 ≤ v 23 ∧ within 5 24 300 ∧ within 5 25 300))
        ∧ (vals.length = 4 → (sectionAcceptable 2 vals = true ↔
          v 0 ≤ 7 ∧ v 1 ≤ 3 ∧ within 50 2 1000 ∧ within 1 3 255))
        ∧ (vals.length = 8 → (sectionAcceptable 3 vals = true ↔
          within 5 0 600 ∧ within 5 1 600 ∧ v 2 ≤ 1 ∧ v 3 ∈ [4, 8, 16, 32] ∧ v 4 ∈ [1, 2, 4, 8] ∧ v 5 ≤ 1
            ∧ v 6 ≤ 8 ∧ within 32 7 64))

/-- What the blocks take up from each section of an accepted PROFILE_SET: roles (a query of a line whose role changed is
answered WAIT without a volume number), bays (the pace computed anew and then always a held NEXT_MOVE evaluated again:
that it always is, and in this order, is the model's choice, log entry 14), limits (the wait counts brought below a
lowered wait limit) and pace fields (the glue latch with LATCHED where it is the first latch, the recovery cycle, the
pace computed anew with PACE at a change). -/
def Obligations.BlocksTakeUpNewProfile : Prop :=
  ∀ (s : State) (old : Profile),
    let wait := fun q : Query => match q with
      | .caseCall => (⟨0x21, .wait, none, [0xFF#8]⟩ : Answer)
      | .nextMove => ⟨0x22, .wait, none, []⟩
      | .gauge _ _ => ⟨0x23, .wait, none, []⟩
      | .foldCall => ⟨0x24, .wait, none, [0xFF#8]⟩
    State.takeProfile 1 old s = s.repaceReleasing.reevaluate Query.isNextMove
    ∧ State.takeProfile 2 old s = { s with volumes := s.volumes.map fun v => { v with
        caseWaits := if s.profile.waitLimit ≤ v.caseWaits then s.profile.waitLimit - 1 else v.caseWaits
        jacketWaits := if s.profile.waitLimit ≤ v.jacketWaits then s.profile.waitLimit - 1 else v.jacketWaits } }
    ∧ (∀ l : Line, s.stations.length = 5 →
        (State.takeProfile 0 old s).station l = (
          let r := s.station l
          if old.roles.getD l.val .none = s.profile.roles.getD l.val .none then r
          else match r.slot with
            | .held h => { r with slot := .answered, output := r.output ++ [⟨wait h.query, true⟩] }
            | .behind h _ => { r with slot := .answered, output := r.output ++ [⟨wait h.query, true⟩] }
            | _ => r)
        ∧ State.takeProfile 0 old s = { s with stations := (State.takeProfile 0 old s).stations })
    ∧ (s.NoneHeld Query.isCaseCall → s.NoneHeld Query.isNextMove → s.NoneHeld Query.isFoldCall →
        let t := State.takeProfile 3 old s
        let latches := !old.glueLatch && s.profile.glueLatch && !s.governor.lines.glueReady
        let latched := if latches && !s.governor.glueLatch && !s.governor.guardLatch
          then State.raise .latched s else s
        let paced := if t.lowestPace = s.governor.effective then latched else State.raise .pace latched
        t.governor = { s.governor with
          glueLatch := s.governor.glueLatch || latches
          recovery := if !old.cycling && s.profile.cycling && s.governor.lines.platenLow
            then .slow (s.clock + s.profile.slowPeriod * 1000)
            else if old.cycling && !s.profile.cycling then .idle else s.governor.recovery
          effective := t.lowestPace }
        ∧ t.notices = paced.notices ∧ t = { s with governor := t.governor, notices := t.notices })

/-! ### Frames, answers and the two kinds of port -/

/-- Every message of every kind, with its operands at any values their fields can carry, is read from its frame as the
command it stands for. On a station line bytes without a start marker before the frame are dropped, and the bytes after
its check byte are hunted through afresh. On the supervisor port the frame begins a write, and the bytes after its check
byte are ignored; where the frame is bad, the first good frame that the hunt finds inside or behind it is the request
(log entry 32), and a write in which none is found is a BAD_FRAME; a transaction that begins with 0x00 is an ANSWER_READ
of the bytes behind it; and one that begins with any other byte shifts out the state byte and changes nothing else (that
it is spelled as a read of no bytes: log entry 27). -/
def Obligations.FramesCarryCommands : Prop :=
  (∀ (i : Instr) (l : Line) (k : Kind) (body junk rest : List Byte),
    messageOf i = some ⟨.station l, k, body⟩ → i.wellFormed = true → (∀ b ∈ junk, b ≠ 0xA5#8) →
      streamCommands l (junk ++ frameBytes (kindByte k) (l.val + 1) body ++ rest) = i :: streamCommands l rest)
    ∧ (∀ (i : Instr) (k : Kind) (body rest : List Byte),
      messageOf i = some ⟨.supervisor, k, body⟩ → i.wellFormed = true →
        transactionCommand (frameBytes (kindByte k) 6 body ++ rest) = some i)
    ∧ (∀ (rest : List Byte) (f : Frame) (fs : List Frame), huntFrames 0 (0xA5#8 :: rest) = f :: fs →
      transactionCommand (0xA5#8 :: rest) = some (frameCommand .supervisor f))
    ∧ (∀ rest : List Byte, huntFrames 0 (0xA5#8 :: rest) = [] →
      ∃ c, transactionCommand (0xA5#8 :: rest) = some (.badFrame .supervisor c)
        ∧ (∀ len more, rest = len :: more → (len.toNat < 3 ∨ 40 < len.toNat) → c = .badLength)
        ∧ (∀ len more, rest = len :: more → 3 ≤ len.toNat → len.toNat ≤ 40 →
          c = if more.length < len.toNat + 1 then .selectRose else .badCheck)
        ∧ (rest = [] → c = .selectRose))
    ∧ (∀ rest : List Byte, transactionCommand (0x00#8 :: rest) = some (.answerRead rest.length))
    ∧ (∀ (b : Byte) (rest : List Byte), b ≠ 0xA5#8 → b ≠ 0x00#8 → ∃ i, transactionCommand (b :: rest) = some i
      ∧ ∀ s : State, exec i s = .next { s with supervisor := { s.supervisor with shifted := s.stateByte } })
    ∧ transactionCommand [] = none

/-- A frame whose length is below 3 or above 40, that is not whole, or whose bytes from the length through the check
do not sum to 0 modulo 256 brings no command: the hunt goes on at the byte after its start marker. BAD_FRAME changes
no state of any block and makes no answer: on a station line nothing at all, and on the supervisor port the
transaction shifts out the state byte alone. FRAME_REFUSED is answered by the first check that fails: an unknown kind
FORM, a wrong port tag FORM, a kind that the port does not own ROLE, a wrong body length FORM (on a line of role NONE
too: log entry 31). It changes nothing while the profile is being loaded, nor where an answer made at a frame's arrival
stands unsent on its line; a supervisor write that meets an occupied slot or the load shifts out the state byte
alone. -/
def Obligations.BadAndRefusedFrames : Prop :=
  (∀ (len : Byte) (rest : List Byte),
    len.toNat < 3 ∨ 40 < len.toNat ∨ rest.length < len.toNat + 1
        ∨ (len.toNat + ((rest.take (len.toNat + 1)).map BitVec.toNat).sum) % 256 ≠ 0 →
      huntFrames 0 (0xA5#8 :: len :: rest) = huntFrames 0 (len :: rest))
    ∧ ((∀ (l : Line) (c : BadFrame) (s : State), exec (.badFrame (.station l) c) s = .next s)
    ∧ (∀ (c : BadFrame) (s : State), exec (.badFrame .supervisor c) s
        = .next { s with supervisor := { s.supervisor with shifted := s.stateByte } })
    ∧ ∀ (p : Port) (kind tag : Nat) (body : List Byte) (s : State) (r : Reason),
      ((kindOfByte kind = none ∧ r = .form)
        ∨ ∃ k, kindOfByte kind = some k ∧
          ((tag ≠ portTag p ∧ r = .form)
            ∨ (tag = portTag p ∧ kindOwner k ≠ (match p with
                | .station l => some (s.roleOf l)
                | .supervisor => none) ∧ r = .role)
            ∨ (tag = portTag p ∧ kindOwner k = (match p with
                | .station l => some (s.roleOf l)
                | .supervisor => none) ∧ commandOf p k body = none ∧ r = .form))) →
      let refused : Answer := ⟨kind, .refused, some r, []⟩
      let shifts := fun b : Byte => { s with supervisor := { s.supervisor with shifted := [b] } }
      match p with
      | .station l =>
        (s.phase = .loading → exec (.frameRefused p kind tag body) s = .next s)
        ∧ (s.phase = .running → s.Free l →
          exec (.frameRefused p kind tag body) s = .next (s.pushAnswer l refused false))
        ∧ (¬ s.Free l → exec (.frameRefused p kind tag body) s = .next s)
      | .supervisor =>
        (s.phase = .loading → exec (.frameRefused p kind tag body) s = .next (shifts 0x01#8))
        ∧ (s.Awaiting → exec (.frameRefused p kind tag body) s = .next (State.answered refused s))
        ∧ (s.phase = .running → s.supervisor.slot = .working →
          exec (.frameRefused p kind tag body) s = .next (shifts 0x01#8))
        ∧ (∀ a n, s.phase = .running → s.supervisor.slot = .holding a n →
          exec (.frameRefused p kind tag body) s = .next (shifts 0x02#8)))

/-- ANSWER_SEND puts the front answer of a line's output list on the line whole and takes it off the list, and the
slot goes EMPTY when it was the answer of its query. ANSWER_COLLISION stops at the byte that was read back changed,
and the answer stays at the front (the bytes driven then: log entry 21). With an empty output list neither does
anything (log entry 4). ANSWER_READ. While HOLDING, the state byte 0x02 and the next part are shifted out; a read that
reaches the part's check byte makes the next part the one to read, or empties the slot after the last, and a shorter one
leaves the part unread. With nothing to read the state byte goes out alone: 0x00 in EMPTY, 0x01 in WORKING and while the
profile is being loaded. READY is high exactly while an answer is held. (The record of the bytes: log entry 19.) -/
def Obligations.AnswersLeaveTheirPorts : Prop :=
  (∀ (l : Line) (s : State),
    ((s.station l).output = [] → exec (.answerSend l) s = .next s
      ∧ ∀ n, exec (.answerCollision l n) s = .next s)
    ∧ ∀ e rest, (s.station l).output = e :: rest →
      exec (.answerSend l) s = .next (s.updStation l fun r =>
        ⟨if e.ofQuery then .empty else r.slot, rest, frameBytes 0x80 (l.val + 1) (partBody e.answer 0)⟩)
      ∧ ∀ n, exec (.answerCollision l n) s = .next (s.updStation l fun r =>
        { r with driven := (frameBytes 0x80 (l.val + 1) (partBody e.answer 0)).take (n + 1) }))
    ∧ ((∀ (s : State) (a : Answer) (n k : Nat), s.phase = .running → s.supervisor.slot = .holding a n →
      let frame := frameBytes 0x80 6 (partBody a n)
      exec (.answerRead k) s = .next { s with supervisor :=
        ⟨if k < frame.length then .holding a n
          else if n + 1 < partCount a then .holding a (n + 1) else .empty,
         0x02#8 :: frame.take k⟩ })
    ∧ (∀ (s : State) (k : Nat), s.phase = .running → s.supervisor.slot = .empty →
      exec (.answerRead k) s = .next { s with supervisor := ⟨.empty, [0x00#8]⟩ })
    ∧ (∀ (s : State) (k : Nat), s.phase = .running → s.supervisor.slot = .working →
      exec (.answerRead k) s = .next { s with supervisor := ⟨.working, [0x01#8]⟩ })
    ∧ (∀ (s : State) (k : Nat), s.phase = .loading →
      exec (.answerRead k) s = .next { s with supervisor := { s.supervisor with shifted := [0x01#8] } })
    ∧ ∀ s : State, s.ready = true ↔ ∃ a n, s.supervisor.slot = .holding a n)

/-- The parts of an answer: between them they carry its fields in order and once, each behind the kind answered, the
code, the reason and the part byte, whose bit 7 marks the last part alone; no part's body is above 38 bytes. The byte
of each answer code and of each reason. -/
def Obligations.AnswerPartsCarryFields : Prop :=
  (∀ a : Answer,
    (List.range (partCount a)).flatMap (fun i => (partBody a i).drop 4) = a.fields
      ∧ ∀ i < partCount a, (partBody a i).length ≤ 38 ∧ (i + 1 < partCount a → (partBody a i).length = 38)
        ∧ (partBody a i).take 4 = [BitVec.ofNat 8 a.kind, BitVec.ofNat 8 (codeByte a.code),
            BitVec.ofNat 8 (reasonByte a.reason),
            BitVec.ofNat 8 (if i + 1 = partCount a then i + 128 else i)])
    ∧ (∀ c : AnswerCode, codeByte c = match c with
      | .ok => 0x00 | .okClamped => 0x01 | .okAligned => 0x02 | .accepted => 0x03 | .wait => 0x04 | .busy => 0x05
      | .refused => 0x06 | .admits => 0x10 | .divert => 0x11 | .take => 0x12 | .load => 0x13 | .unload => 0x14
      | .pass => 0x15 | .stray => 0x16 | .fold => 0x17 | .plain => 0x18 | .bare => 0x19)
    ∧ reasonByte none = 0x00
    ∧ ∀ r : Reason, reasonByte (some r) = match r with
      | .role => 0x01 | .form => 0x02 | .notFound => 0x03 | .duplicate => 0x04 | .tableFull => 0x05 | .inUse => 0x06
      | .overlap => 0x07 | .badValue => 0x08 | .notStopped => 0x09 | .state => 0x0A | .duplicateSerial => 0x10
      | .unmapped => 0x11 | .retiredTitle => 0x12 | .noTitle => 0x13 | .misfit => 0x14 | .noJaw => 0x15
      | .noCase => 0x16 | .pressFault => 0x17 | .spineGrowth => 0x18 | .flapShort => 0x19 | .noJacket => 0x1A

/-- A supervisor request that meets an answer slot still WORKING or HOLDING changes nothing: its BUSY is the state
byte the same transaction shifts out. While the profile is being loaded none is taken, and the state byte is 0x01. -/
def Obligations.RequestsMeetBusySlot : Prop :=
  ∀ (i : Instr) (m : Message) (s : State), messageOf i = some m → m.port = .supervisor →
    (s.phase = .running → s.supervisor.slot = .working →
      exec i s = .next { s with supervisor := ⟨.working, [0x01#8]⟩ })
    ∧ (∀ a n, s.phase = .running → s.supervisor.slot = .holding a n →
      exec i s = .next { s with supervisor := ⟨.holding a n, [0x02#8]⟩ })
    ∧ (s.phase = .loading → exec i s = .next { s with supervisor := { s.supervisor with shifted := [0x01#8] } })

/-- A station message is dropped while the profile is being loaded, refused ROLE on a line whose role does not own its
kind, and refused FORM where the form check of its owning rule fails (of a GAUGE without a tag it leaves the tag bytes
aside: log entry 29). Either refusal joins the line's output list and
changes nothing else; where an answer made at a frame's arrival still stands there, the frame is discarded. -/
def Obligations.StationMessagesTurnedAway : Prop :=
  ∀ (i : Instr) (l : Line) (k : Kind) (body : List Byte) (s : State),
    messageOf i = some ⟨.station l, k, body⟩ →
    (s.phase = .loading → exec i s = .next s)
    ∧ (s.phase = .running → kindOwner k ≠ some (s.roleOf l) →
      (s.Free l → exec i s = .next (s.pushAnswer l ⟨kindByte k, .refused, some .role, []⟩ false))
      ∧ (¬ s.Free l → exec i s = .next s))
    ∧ (s.Hears l k → goodForm i = false →
      (s.Free l → exec i s = .next (s.pushAnswer l ⟨kindByte k, .refused, some .form, []⟩ false))
      ∧ (¬ s.Free l → exec i s = .next s))

/-- The eight reports as they arrive, in good form on a line of the role that owns them: posted at the tail of the
report queue and answered ACCEPTED, or answered BUSY and not posted when the queue holds 32; discarded where an answer
made at a frame's arrival still stands unsent. A query that finds its line's slot not EMPTY is answered BUSY at its
arrival, or discarded where another such answer still stands unsent. A CASE_CALL, NEXT_MOVE or FOLD_CALL that finds
the slot EMPTY with reports of its line in the queue waits BEHIND them, with the time of its arrival and the hold
limit in force. -/
def Obligations.ReportsAndQueriesArrive : Prop :=
  (∀ (i : Instr) (l : Line) (k : Kind) (r : Report) (s : State),
    reportOf i = some (l, k, r) → goodForm i = true → s.Hears l k →
    (s.Free l → s.reports.length < 32 → exec i s = .next
      (State.pushAnswer l ⟨kindByte k, .accepted, none, []⟩ false { s with reports := s.reports ++ [⟨l, r⟩] }))
    ∧ (s.Free l → 32 ≤ s.reports.length →
      exec i s = .next (s.pushAnswer l ⟨kindByte k, .busy, none, []⟩ false))
    ∧ (¬ s.Free l → exec i s = .next s))
    ∧ ((∀ (i : Instr) (l : Line) (k : Kind) (s : State),
      queryOf i = some (l, k) → goodForm i = true → s.Hears l k → (s.station l).slot ≠ .empty →
      (s.Free l → exec i s = .next (s.pushAnswer l ⟨kindByte k, .busy, none, []⟩ false))
      ∧ (¬ s.Free l → exec i s = .next s))
    ∧ ∀ (l : Line) (s : State), (s.station l).slot = .empty → 0 < s.postedBy l →
      (s.Hears l .caseCall → exec (.caseCall l) s
        = .next (s.setSlot l (.behind ⟨.caseCall, s.clock, s.profile.holdLimit⟩ (s.postedBy l))))
      ∧ (s.Hears l .nextMove → exec (.nextMove l) s
        = .next (s.setSlot l (.behind ⟨.nextMove, s.clock, s.profile.holdLimit⟩ (s.postedBy l))))
      ∧ (s.Hears l .foldCall → exec (.foldCall l) s
        = .next (s.setSlot l (.behind ⟨.foldCall, s.clock, s.profile.holdLimit⟩ (s.postedBy l)))))

/-! ### Reports applied from the head of the queue -/

/-- CASE_SEEN_APPLIED: the case joins the tail of a case window of fewer than 8, marked DOUBLE exactly when its tag is
in use already, and a held CASE_CALL is evaluated again; with 8 in the window it is discarded with MISREPORT.
JACKET_SEEN_APPLIED: the jacket joins the tail of a jacket window of fewer than 4, marked DOUBLE exactly when it is a
unit jacket whose tag an entry clear of DOUBLE carries, and a held FOLD_CALL is evaluated again; with 4 in the window
it is discarded with MISREPORT. -/
def Obligations.SeenPiecesJoinWindows : Prop :=
  (∀ (s : State) (l : Line) (tag : Tag) (rest : List Posted), s.reports = ⟨l, .caseSeen tag⟩ :: rest →
    (s.caseWindow.length < 8 → exec .caseSeenApplied s = .next
      ((State.reevaluate Query.isCaseCall { s with
        reports := rest
        caseWindow := s.caseWindow ++ [⟨tag, decide (tag ∈ s.tagsInUse)⟩] }).reportApplied l))
    ∧ (8 ≤ s.caseWindow.length → exec .caseSeenApplied s = .next
      ((State.raise .misreport { s with reports := rest }).reportApplied l)))
    ∧ (∀ (s : State) (l : Line) (tag : Tag) (rest : List Posted), s.reports = ⟨l, .jacketSeen tag⟩ :: rest →
    (s.jacketWindow.length < 4 → exec .jacketSeenApplied s = .next
      ((State.reevaluate Query.isFoldCall { s with
        reports := rest
        jacketWindow := s.jacketWindow ++
          [⟨tag, decide (tag.number ≠ 0 ∧ (⟨tag, false⟩ : WindowEntry) ∈ s.jacketWindow)⟩] }).reportApplied l))
    ∧ (4 ≤ s.jacketWindow.length → exec .jacketSeenApplied s = .next
      ((State.raise .misreport { s with reports := rest }).reportApplied l)))

/-- The reports that name a volume, in the state each fits: CASED takes a CASING volume to CASED and has a held
NEXT_MOVE evaluated again; CASE_SPOILED removes a CASING volume, counted diverted; DELIVERED removes a JACKETING
volume, counted out_bare after a BARE finish and out_jacketed after any other. -/
def Obligations.VolumeReportsApply : Prop :=
  ∀ (s : State) (l : Line) (n : Nat) (v : Volume) (rest : List Posted), s.volume? n = some v →
    (s.reports = ⟨l, .cased n⟩ :: rest → v.state = .casing → exec .casedApplied s = .next
      ((State.reevaluate Query.isNextMove { s with
        reports := rest
        volumes := s.volumes.map fun u => if u.number = n then { u with state := .cased } else u }).reportApplied l))
    ∧ (s.reports = ⟨l, .caseSpoiled n⟩ :: rest → v.state = .casing → exec .caseSpoiledApplied s = .next
      ((State.removeVolume .diverted v { s with reports := rest }).reportApplied l))
    ∧ (s.reports = ⟨l, .delivered n⟩ :: rest → v.state = .jacketing → exec .deliveredApplied s = .next
      ((State.removeVolume (match v.finish with
          | some (.bare _) => .outBare
          | _ => .outJacketed) v { s with reports := rest }).reportApplied l))

/-- A CASED, CASE_SPOILED or DELIVERED that names a free slot or a volume in another state, and a BAY_CLOSED or
BAY_CLEARED that names a bay in another state, is discarded with MISREPORT: the report leaves the queue, and the report
itself changes no record of a volume or a bay. A query of the line that waited BEHIND it then comes up
(`State.reportApplied`, stated apart), and its evaluation may change records; with no query BEHIND on the line nothing
else changes at all. -/
def Obligations.MisreportsChangeNothing : Prop :=
  ∀ (s : State) (l : Line) (n : Nat) (rest : List Posted),
    let discarded := State.raise .misreport { s with reports := rest }
    let t := discarded.reportApplied l
    (s.NoneBehind l → t = discarded)
    ∧ (s.reports = ⟨l, .cased n⟩ :: rest → (∀ v, s.volume? n = some v → v.state ≠ .casing) →
      exec .casedApplied s = .next t)
    ∧ (s.reports = ⟨l, .caseSpoiled n⟩ :: rest → (∀ v, s.volume? n = some v → v.state ≠ .casing) →
      exec .caseSpoiledApplied s = .next t)
    ∧ (s.reports = ⟨l, .delivered n⟩ :: rest → (∀ v, s.volume? n = some v → v.state ≠ .jacketing) →
      exec .deliveredApplied s = .next t)
    ∧ (s.reports = ⟨l, .bayClosed n⟩ :: rest → (∀ r, s.bays[n]? = some r → r.state ≠ .reserved) →
      exec .bayClosedApplied s = .next t)
    ∧ (s.reports = ⟨l, .bayCleared n⟩ :: rest → (∀ r, s.bays[n]? = some r → r.state ≠ .emptying) →
      exec .bayClearedApplied s = .next t)

/-- BAY_CLOSED_APPLIED: a RESERVED bay goes CLOSED, closed now and to expire after its volume's stored dwell, each tenth
of a second counting 100 ms; the volume goes PRESSING. BAY_CLEARED_APPLIED: an EMPTYING bay goes FAULTED with
fault-pending set, otherwise OUT_OF_SERVICE with service-out-pending set, otherwise VACANT from now; its volume goes
ON_OUTFEED and leaves the bay. The vacant count goes to the governor, a bay come to VACANT has a held NEXT_MOVE
evaluated again, and a held GAUGE is evaluated again (`State.reevaluateGauge`, stated with the queries BEHIND reports).
That they come in this order, the pace, the NEXT_MOVE, the GAUGE and then the query BEHIND the report, is the model's
choice (log entry 14). -/
def Obligations.BaysClosedAndCleared : Prop :=
  (∀ (s : State) (l : Line) (b n d : Nat) (r : Bay) (v : Volume) (rest : List Posted),
    s.reports = ⟨l, .bayClosed b⟩ :: rest → s.bays[b]? = some r → r.state = .reserved → r.volume = some n →
    s.volume? n = some v → v.dwell = some d →
    exec .bayClosedApplied s = .next (State.reportApplied l { s with
      reports := rest
      bays := s.bays.set b
        { r with state := .closed, closedAt := some s.clock, expiry := some (s.clock + 100 * d) }
      volumes := s.volumes.map fun u => if u.number = n then { u with state := .pressing } else u }))
    ∧ (∀ (s : State) (l : Line) (b n : Nat) (r : Bay) (rest : List Posted),
    s.reports = ⟨l, .bayCleared b⟩ :: rest → s.bays[b]? = some r → r.state = .emptying → r.volume = some n →
    let moved := fun r' : Bay => { s with
      reports := rest
      bays := s.bays.set b r'
      volumes := s.volumes.map fun u => if u.number = n then { u with state := .onOutfeed, bay := none } else u }
    (r.faultPending = true → exec .bayClearedApplied s = .next
      (((State.levelRises .bayFault s.anyFaulted
        (moved ⟨.faulted, none, none, none, none, none, false, false⟩)).repace.reevaluateGauge).reportApplied l))
    ∧ (r.faultPending = false → r.servicePending = true → exec .bayClearedApplied s = .next
      (((moved ⟨.outOfService, none, none, none, none, none, false, false⟩).repace.reevaluateGauge).reportApplied l))
    ∧ (r.faultPending = false → r.servicePending = false → exec .bayClearedApplied s = .next
      ((((moved ⟨.vacant, none, some s.clock, none, none, none, false, false⟩).repace.reevaluate
        Query.isNextMove).reevaluateGauge).reportApplied l)))

/-- BAY_FAULT_APPLIED in each state of the bay: VACANT and RESERVED go FAULTED (the reserved bay's volume back to
CASED without bay and dwell), CLOSED goes DONE with fault-pending and its volume PRESSED with PRESS_FAULT, DONE and
EMPTYING take fault-pending, FAULTED and OUT_OF_SERVICE are unchanged. -/
def Obligations.BayFaultFitsEveryState : Prop :=
  ∀ (s : State) (l : Line) (b : Nat) (r : Bay) (rest : List Posted),
    s.reports = ⟨l, .bayFault b⟩ :: rest → s.bays[b]? = some r →
    (r.state = .vacant → exec .bayFaultApplied s = .next
      ((State.levelRises .bayFault s.anyFaulted { s with
        reports := rest
        bays := s.bays.set b { r with state := .faulted, vacated := none } }).repace.reportApplied l))
    ∧ (∀ n, r.state = .reserved → r.volume = some n → exec .bayFaultApplied s = .next
      (((State.levelRises .bayFault s.anyFaulted { s with
        reports := rest
        bays := s.bays.set b ⟨.faulted, none, none, none, none, none, false, false⟩
        volumes := s.volumes.map fun u =>
          if u.number = n then { u with state := .cased, bay := none, dwell := none } else u }).reevaluate
            Query.isNextMove).reportApplied l))
    ∧ (∀ n, r.state = .closed → r.volume = some n → exec .bayFaultApplied s = .next
      ((State.reevaluate Query.isNextMove { s with
        reports := rest
        bays := s.bays.set b { r with
          state := .done, closedAt := none, expiry := some s.clock
          overdwellDue := some (s.clock + s.profile.overdwell * 1000), faultPending := true }
        volumes := s.volumes.map fun u =>
          if u.number = n then { u with state := .pressed, pressFault := true } else u }).reportApplied l))
    ∧ (r.state = .done ∨ r.state = .emptying → exec .bayFaultApplied s = .next
      (State.reportApplied l { s with
        reports := rest
        bays := s.bays.set b { r with faultPending := true } }))
    ∧ (r.state = .faulted ∨ r.state = .outOfService → exec .bayFaultApplied s = .next
      (State.reportApplied l { s with reports := rest }))

/-- After a report of a line is applied, a query that waits BEHIND that line's reports has one fewer ahead of it, and
is evaluated when it was the last; a slot in another state is left alone. An evaluation leaves the query HELD or
answers it, and a held FOLD_CALL comes up behind an answer that gave the jacketer a front; at the arrival of a query
with no report ahead of it that same evaluation is made. A re-evaluation changes nothing where no query of the kind is
HELD, and otherwise leaves it HELD or answers it. That of a GAUGE is followed by that of a held FOLD_CALL where it gave
the jacketer a front (R134, R144). That an ENTRY and a GAUGE never wait BEHIND reports is log entry 16. -/
def Obligations.QueriesBehindReportsComeUp : Prop :=
  (∀ (s : State) (l : Line) (h : HeldQuery) (n : Nat), (s.station l).slot = .behind h n →
      (n ≤ 1 → s.reportApplied l = s.evaluate l h false)
      ∧ (2 ≤ n → s.reportApplied l = s.setSlot l (.behind h (n - 1))))
    ∧ (∀ (s : State) (l : Line), (∀ h n, (s.station l).slot ≠ .behind h n) → s.reportApplied l = s)
    ∧ (∀ (s : State) (l : Line) (h : HeldQuery),
      (evalQuery h.query false s = none → s.evaluate l h false = s.setSlot l (.held h))
      ∧ ∀ t a, evalQuery h.query false s = some (t, a) →
        s.evaluate l h false = ((t.pushAnswer l a true).setSlot l .answered).afterFront s)
    ∧ (∀ (s : State) (l : Line),
      let asked := fun q => s.evaluate l ⟨q, s.clock, s.profile.holdLimit⟩ false
      (s.Asks l .caseCall → exec (.caseCall l) s = .next (asked .caseCall))
      ∧ (s.Asks l .nextMove → exec (.nextMove l) s = .next (asked .nextMove))
      ∧ (s.Asks l .foldCall → exec (.foldCall l) s = .next (asked .foldCall))
      ∧ ∀ raw, s.Hears l .gauge → (s.station l).slot = .empty → raw ≤ 2047 →
        (∀ title number, exec (.gauge l 0 title number raw) s = .next (asked (.gauge none raw)))
        ∧ ∀ title number, title ≠ 0 → number ≤ 1048575 →
          exec (.gauge l 1 title number raw) s = .next (asked (.gauge (some ⟨title, number⟩) raw)))
    ∧ (∀ (s : State) (kind : Query → Bool),
      (s.NoneHeld kind → s.reevaluate kind = s)
      ∧ ∀ l h, s.heldQuery kind = some (l, h) →
        (evalQuery h.query false s = none → s.reevaluate kind = s)
        ∧ ∀ t a, evalQuery h.query false s = some (t, a) →
          s.reevaluate kind = (t.pushAnswer l a true).setSlot l .answered)
    ∧ ∀ s : State, s.reevaluateGauge = (s.reevaluate Query.isGauge).afterFront s

/-- The removal of a volume, whatever removes it: its record and its place in the orders are gone and every other
record stays. Of a bound volume, its title's counter named by the kind rises by 1 and its volume count falls by 1; a
delivery that brings the title to its run quota for the first time sets quota reached and raises QUOTA; a RETIRING title
goes with its last volume, with RETIRED behind QUOTA. Of an unbound volume, its code leaves the miss list unless another
volume in AWAIT_TITLE carries it, and no title changes. The pace is computed anew last. Nothing else changes. -/
def Obligations.RemovalIsCounted : Prop :=
  ∀ (s : State) (kind : Removal) (n : Nat) (v : Volume), s.volume? n = some v →
    let gone : State := { s with
      volumes := s.volumes.filter fun w => w.number ≠ n, postPress := s.postPress.filter fun m => m ≠ n }
    (∀ tt, v.bound.isSome = true → s.title? v.title = some tt →
      let up := fun (k : Removal) (x : Nat) => if kind = k then min (x + 1) 4294967295 else x
      let reached := (kind = .outJacketed ∨ kind = .outBare) ∧ 0 < tt.quota ∧ tt.quotaReached = false
        ∧ tt.quota ≤ tt.outJacketed + tt.outBare + 1
      let counted : State := { gone with titles := s.titles.map fun t => if t.code = v.title then { t with
          volumeCount := t.volumeCount - 1
          diverted := up .diverted t.diverted, outJacketed := up .outJacketed t.outJacketed
          outBare := up .outBare t.outBare, cleared := up .cleared t.cleared
          quotaReached := if reached then true else t.quotaReached } else t }
      let told := if reached then State.raise .quota counted else counted
      s.removeVolume kind v = State.repace (if tt.retiring = true ∧ tt.volumeCount ≤ 1
        then State.raise .retired { told with titles := s.titles.filter fun t => t.code ≠ v.title } else told))
    ∧ (v.bound.isSome = true → s.title? v.title = none → s.removeVolume kind v = gone.repace)
    ∧ (v.bound.isSome = false → s.removeVolume kind v = State.repace { gone with
        missList := if ∃ w ∈ s.volumes, w.number ≠ n ∧ w.state = .awaitTitle ∧ w.title = v.title then s.missList
          else s.missList.filter fun c => c ≠ v.title })

/-! ### Station queries -/

/-- ENTRY in the order of its outcomes where the block is not admitted: WAIT at HOLD or STOP or with 64 volumes on the
line; DIVERT of a serial the table holds, of one no enabled range entry covers, of a RETIRING title, and of an absent
title that a full miss list has no room for. Nothing else changes but the DIVERT notice. That an ENTRY is evaluated at
once with reports of its line still posted is log entry 16. -/
def Obligations.EntryTurnsBlocksAway : Prop :=
  ∀ (s : State) (l : Line) (serial raw : Nat), s.Hears l .entry → (s.station l).slot = .empty → raw ≤ 2047 →
    let divert := fun r => (State.raise .divert s).answerSlot l ⟨0x20, .divert, some r, []⟩
    (s.Halted ∨ 64 ≤ s.volumes.length →
      exec (.entry l serial raw) s = .next (s.answerSlot l ⟨0x20, .wait, none, []⟩))
    ∧ (¬ s.Halted → s.volumes.length < 64 →
      ((∃ v ∈ s.volumes, v.serial = serial) → exec (.entry l serial raw) s = .next (divert .duplicateSerial))
      ∧ ((∀ v ∈ s.volumes, v.serial ≠ serial) →
        ((∀ e ∈ s.ranges, e.enabled = true → serial / 2 ^ e.sizeClass ≠ e.base / 2 ^ e.sizeClass) →
          exec (.entry l serial raw) s = .next (divert .unmapped))
        ∧ ∀ e i, s.rangeFor serial = some (e, i) →
          (∀ t, s.title? e.code = some t → t.retiring = true →
            exec (.entry l serial raw) s = .next (divert .retiredTitle))
          ∧ (s.title? e.code = none → e.code ∉ s.missList → 8 ≤ s.missList.length →
            exec (.entry l serial raw) s = .next (divert .noTitle))))

/-- ENTRY of a block of a resident title that is not RETIRING: ADMIT with the lowest free volume number. The record
joins the tail of the admission order in AWAIT_CASE with its bind part, the title counts it and goes to the head of
the recency list, at a requested pace of RUN the step-down and the idle timer start afresh, and the pace is computed
anew. A held CASE_CALL that had no front is evaluated again. ENTRY of a block whose title is absent, with its code on
the miss list or room there: ADMIT with the lowest free volume number. The record joins the tail of the admission
order in AWAIT_TITLE without a bind part, the code joins the tail of the miss list unless it stands there, and the
governor takes the ADMIT and the fill. Of either record both wait counts are 0, every flag is clear but UNGAUGED for a
failed reading of a bound block, and every later part is absent. That an ENTRY is evaluated at once with reports of its
line still posted is log entry 16; that the CASE_CALL comes up behind the pace is log entry 14. -/
def Obligations.EntryAdmitsBlocks : Prop :=
  let record := fun (number serial title unit raw : Nat) => ({
    number := number, serial := serial, title := title, unit := unit, state := .awaitTitle, raw := raw
    caseWaits := 0, jacketWaits := 0
    ungauged := false, overpressed := false, pressFault := false, unverified := false, returned := false
    outUngauged := false
    bound := none, caseTag := none, bay := none, dwell := none, tOut := none, finish := none } : Volume)
  (∀ (s : State) (l : Line) (serial raw n i : Nat) (e : RangeEntry) (t : Title),
    s.Hears l .entry → (s.station l).slot = .empty → raw ≤ 2047 → ¬ s.Halted → s.volumes.length < 64 →
    (∀ v ∈ s.volumes, v.serial ≠ serial) → s.rangeFor serial = some (e, i) → s.title? e.code = some t →
    t.retiring = false → n < 64 → (∀ v ∈ s.volumes, v.number ≠ n) → (∀ m < n, ∃ v ∈ s.volumes, v.number = m) →
    let failed := raw == 0 || raw == 2047
    let tBlk := if failed then t.tNom else max 1 (roundHalfEven raw 2)
    let cls := fitClass t.band tBlk t.tNom
    let wBook := tBlk + 2 * t.board
    let v : Volume := { record n serial e.code ((e.unitBase + (serial - e.base)) % 16777216) raw with
      state := .awaitCase, ungauged := failed
      bound := some ⟨tBlk, cls, wBook, if cls = .reject then some .misfit
        else if (s.profile.assignment.any fun a => match a with
          | none => false
          | some g => groupHolds s.profile g wBook) then none else some .noJaw⟩ }
    let counted := fun u : Title => { u with admitted := min (u.admitted + 1) 4294967295, volumeCount := u.volumeCount + 1 }
    let u := State.answerSlot l ⟨0x20, .admits, none, [BitVec.ofNat 8 n]⟩ (State.repace { s with
      volumes := s.volumes ++ [v]
      titles := (s.titles.filter fun u => u.code = e.code).map counted ++ s.titles.filter fun u => u.code ≠ e.code
      governor := if s.governor.requested = .run then { s.governor with
        stepDown := .run, idleDue := some (s.clock + s.profile.idle1 * 1000) } else s.governor })
    exec (.entry l serial raw) s = .next (if s.caserFront = none then u.reevaluate Query.isCaseCall else u))
    ∧ (∀ (s : State) (l : Line) (serial raw n i : Nat) (e : RangeEntry),
    s.Hears l .entry → (s.station l).slot = .empty → raw ≤ 2047 → ¬ s.Halted → s.volumes.length < 64 →
    (∀ v ∈ s.volumes, v.serial ≠ serial) → s.rangeFor serial = some (e, i) → s.title? e.code = none →
    (e.code ∈ s.missList ∨ s.missList.length < 8) →
    n < 64 → (∀ v ∈ s.volumes, v.number ≠ n) → (∀ m < n, ∃ v ∈ s.volumes, v.number = m) →
    let grown : State := { s with
      volumes := s.volumes ++ [record n serial e.code ((e.unitBase + (serial - e.base)) % 16777216) raw]
      missList := if e.code ∈ s.missList then s.missList else s.missList ++ [e.code]
      governor := if s.governor.requested = .run then { s.governor with
        stepDown := .run, idleDue := some (s.clock + s.profile.idle1 * 1000) } else s.governor }
    let u := State.answerSlot l ⟨0x20, .admits, none, [BitVec.ofNat 8 n]⟩
      (State.repace (if s.missList = [] then State.raise .titleMiss grown else grown))
    exec (.entry l serial raw) s = .next (if s.caserFront = none then u.reevaluate Query.isCaseCall else u))

/-- CASE_CALL at its arrival, test by test: held without a front or at HOLD and STOP; DIVERT of a front with a divert
mark; held for a front in AWAIT_TITLE; TAKE of the first matching case within the skip limit, with the cases ahead of
it ejected; without one, DIVERT NO_CASE at a full window and held otherwise. -/
def Obligations.CaseCallMarriesFrontVolume : Prop :=
  ∀ (s : State) (l : Line), s.Asks l .caseCall →
    let held := s.setSlot l (.held ⟨.caseCall, s.clock, s.profile.holdLimit⟩)
    let divert := fun (v : Volume) r => (State.raise .divert (s.removeVolume .diverted v)).answerSlot l
      ⟨0x21, .divert, some r, [BitVec.ofNat 8 v.number]⟩
    (s.caserFront = none ∨ s.Halted → exec (.caseCall l) s = .next held)
    ∧ (∀ v, s.caserFront = some v → ¬ s.Halted →
      (∀ m, v.bound.bind BindPart.mark = some m → exec (.caseCall l) s
        = .next (divert v (match m with | .misfit => .misfit | .noJaw => .noJaw)))
      ∧ (v.bound.bind BindPart.mark = none →
        (v.state = .awaitTitle → exec (.caseCall l) s = .next held)
        ∧ ∀ t, v.state = .awaitCase → s.title? v.title = some t →
          let fit := fun e : WindowEntry =>
            e.double = false ∧ e.tag.title = v.title ∧ (t.marry = .run ∨ e.tag.number = v.unit % 1048576)
          (∀ k e, s.caseWindow[k]? = some e → fit e → (∀ j e', j < k → s.caseWindow[j]? = some e' → ¬ fit e') →
            k ≤ s.profile.caseSkip → exec (.caseCall l) s = .next (State.answerSlot l
              ⟨0x21, .take, none, pack [(1, v.number), (1, k), (3, e.tag.title), (3, e.tag.number)]⟩ { s with
                caseWindow := s.caseWindow.drop (k + 1)
                volumes := s.volumes.map fun u =>
                  if u.number = v.number then { u with state := .casing, caseTag := some e.tag } else u }))
          ∧ ((∀ j e, j ≤ s.profile.caseSkip → s.caseWindow[j]? = some e → ¬ fit e) →
            (s.caseWindow.length < 8 → exec (.caseCall l) s = .next held)
            ∧ (8 ≤ s.caseWindow.length → exec (.caseCall l) s = .next (divert v .noCase)))))

/-- The candidates of the shuttle arbiter. U: the DONE bay of the earliest expiry time, the lowest-numbered of equals.
L: outside STOP, the front-most CASED volume with the fitting VACANT bay of the earliest vacated time, the
lowest-numbered of equals. -/
def Obligations.ArbiterCandidates : Prop :=
  ∀ s : State,
    (s.unloadCandidate = none ↔ ∀ r ∈ s.bays, r.state ≠ .done)
    ∧ (∀ t b, s.unloadCandidate = some (t, b) → ∃ r, s.bays[b]? = some r ∧ r.state = .done ∧ r.expiry.getD 0 = t
      ∧ ∀ c q, s.bays[c]? = some q → q.state = .done →
        t < q.expiry.getD 0 ∨ (t = q.expiry.getD 0 ∧ b ≤ c))
    ∧ (s.governor.effective = .stop → s.loadCandidate = none)
    ∧ (s.governor.effective ≠ .stop → (s.volumes.find? fun v => v.state == .cased) = none → s.loadCandidate = none)
    ∧ ∀ v p, s.governor.effective ≠ .stop → (s.volumes.find? fun v => v.state == .cased) = some v →
      v.bound = some p →
      let fits := fun b => ∃ r g, s.bays[b]? = some r ∧ r.state = .vacant ∧ s.profile.assignment[b]? = some (some g)
        ∧ groupHolds s.profile g p.wBook = true
      let since := fun b => ((s.bays[b]?).bind Bay.vacated).getD 0
      ((∀ b, ¬ fits b) → s.loadCandidate = none)
      ∧ ∀ b, fits b → (∀ c, fits c → since b < since c ∨ (since b = since c ∧ b ≤ c)) →
        s.loadCandidate = some (v, b)

/-- NEXT_MOVE at its arrival: UNLOAD U when it is old enough or fewer than two bays are vacant, otherwise LOAD L,
otherwise UNLOAD U, otherwise held. UNLOAD takes the bay to EMPTYING and its volume to UNLOADING at the tail of the
post-press sequence; LOAD stores bay and dwell in the volume, takes it to LOADING and the bay to RESERVED, and hands
the vacant count to the governor. -/
def Obligations.NextMoveArbitrates : Prop :=
  ∀ (s : State) (l : Line), s.Asks l .nextMove →
    (s.unloadCandidate = none → s.loadCandidate = none → exec (.nextMove l) s
      = .next (s.setSlot l (.held ⟨.nextMove, s.clock, s.profile.holdLimit⟩)))
    ∧ (∀ t b r n, s.unloadCandidate = some (t, b) → s.bays[b]? = some r → r.volume = some n →
      (s.loadCandidate = none ∨ s.profile.unloadAge * 100 ≤ s.clock - t ∨ s.vacantCount < 2) →
      exec (.nextMove l) s = .next (State.answerSlot l ⟨0x22, .unload, none, pack [(1, b), (1, n)]⟩ { s with
        bays := s.bays.set b { r with state := .emptying, overdwellDue := none }
        volumes := s.volumes.map fun u => if u.number = n then { u with state := .unloading } else u
        postPress := s.postPress ++ [n] }))
    ∧ ∀ v b p tt tag, s.loadCandidate = some (v, b) → v.bound = some p → s.title? v.title = some tt →
      v.caseTag = some tag →
      (s.unloadCandidate = none
        ∨ ∃ t c, s.unloadCandidate = some (t, c) ∧ s.clock - t < s.profile.unloadAge * 100 ∧ 2 ≤ s.vacantCount) →
      let d := dwellOf tt.dwellBase tt.dwellSlope p.tBlk s.governor.lines.platenLow
      exec (.nextMove l) s = .next (State.answerSlot l
        ⟨0x22, .load, none, pack [(1, v.number), (1, b), (2, d), (3, tag.title), (3, tag.number)]⟩ (State.repace { s with
          bays := s.bays.set b ⟨.reserved, some v.number, none, none, none, none, false, false⟩
          volumes := s.volumes.map fun u =>
            if u.number = v.number then { u with state := .loading, bay := some b, dwell := some d } else u }))

/-- GAUGE at its arrival, test by test. It is evaluated at once with reports of its line still posted (log entry 16).
Without a tag the front ON_OUTFEED volume is taken, flagged UNVERIFIED, or the piece is STRAY, whatever the tag bytes
hold (that they are not examined: log entry 29). With one: an ON_OUTFEED volume is taken and those ahead of it go
MISSING; a MISSING one is taken, flagged RETURNED; for an UNLOADING one the query is held; any other tag is STRAY. The
volume taken is stated by `takeAtOutfeed` (stated apart), and a held FOLD_CALL that had no front is evaluated again. A
volume taken at the outfeed, the only record of its number (`w` in the table; `v` as it was found, before it was flagged
UNVERIFIED): its outfeed thickness is stored; with PRESS_FAULT it is removed, counted diverted, and the DIVERT notice
fires; otherwise it goes AWAIT_JACKET, behind the passed volumes of the post-press sequence and ahead of all others, and
PASS carries the number skipped and whether it had returned. A volume that goes MISSING leaves the post-press sequence
with its record kept, and TRACKING is raised where no volume was MISSING. -/
def Obligations.GaugeTakesPieces : Prop :=
  (∀ (s : State) (l : Line) (raw : Nat), s.Hears l .gauge → (s.station l).slot = .empty → raw ≤ 2047 →
    let stray := (State.raise .stray s).answerSlot l ⟨0x23, .stray, none, []⟩
    let answer := fun r : State × Answer => (r.1.answerSlot l r.2).afterFront s
    (∀ title number, s.onOutfeed = [] → exec (.gauge l 0 title number raw) s = .next stray)
    ∧ (∀ title number v vs, s.onOutfeed = v :: vs → exec (.gauge l 0 title number raw) s = .next (answer
      (takeAtOutfeed v raw 0 false (s.updVolume v.number fun u => { u with unverified := true }))))
    ∧ ∀ tag : Tag, tag.title ≠ 0 → tag.number ≤ 1048575 →
      (∀ ahead v vs, s.onOutfeed = ahead ++ v :: vs → v.caseTag = some tag →
        (∀ u ∈ ahead, u.caseTag ≠ some tag) → exec (.gauge l 1 tag.title tag.number raw) s = .next (answer
          (takeAtOutfeed v raw ahead.length false (ahead.foldl (fun s u => s.goMissing u.number) s))))
      ∧ ((∀ u ∈ s.onOutfeed, u.caseTag ≠ some tag) →
        (∀ v, (s.volumes.find? fun v => v.state == .missing && v.caseTag == some tag) = some v →
          exec (.gauge l 1 tag.title tag.number raw) s = .next (answer (takeAtOutfeed v raw 0 true s)))
        ∧ ((∀ v ∈ s.volumes, v.state = .missing → v.caseTag ≠ some tag) →
          ((∃ v ∈ s.volumes, v.state = .unloading ∧ v.caseTag = some tag) →
            exec (.gauge l 1 tag.title tag.number raw) s
              = .next (s.setSlot l (.held ⟨.gauge (some tag) raw, s.clock, s.profile.holdLimit⟩)))
          ∧ ((∀ v ∈ s.volumes, v.state = .unloading → v.caseTag ≠ some tag) →
            exec (.gauge l 1 tag.title tag.number raw) s = .next stray))))
    ∧ (∀ (s : State) (v w : Volume) (p : BindPart) (raw skipped : Nat) (returned : Bool), raw ≤ 2047 → w ∈ s.volumes →
    (∀ u ∈ s.volumes, u.number = w.number → u = w) → v = { w with unverified := v.unverified } → v.bound = some p →
    let failed := raw == 0 || raw == 2047
    let gauged : Volume := { w with
      tOut := some (if failed then p.wBook else max 1 (roundHalfEven raw 2))
      outUngauged := w.outUngauged || failed, returned := w.returned || returned }
    let put := fun x : Volume => s.volumes.map fun u => if u.number = v.number then x else u
    let isPassed := fun m => match s.volume? m with
      | none => false
      | some u => u.state == .awaitJacket || u.state == .jacketing
    let others := s.postPress.filter fun m => m ≠ v.number
    (v.pressFault = true → takeAtOutfeed v raw skipped returned s
      = (State.raise .divert (State.removeVolume .diverted v { s with volumes := put gauged }),
         ⟨0x23, .divert, some .pressFault, [BitVec.ofNat 8 v.number]⟩))
    ∧ (v.pressFault = false → takeAtOutfeed v raw skipped returned s
      = ({ s with
          volumes := put { gauged with state := .awaitJacket }
          postPress := others.filter isPassed ++ v.number :: others.filter fun m => !isPassed m },
         ⟨0x23, .pass, none, pack [(1, v.number), (1, skipped), (1, if returned then 1 else 0)]⟩)))
    ∧ (∀ (s : State) (n : Nat),
      let gone : State := { s with
        postPress := s.postPress.filter fun m => m ≠ n
        volumes := s.volumes.map fun u => if u.number = n then { u with state := .missing } else u }
      s.goMissing n = if ∃ v ∈ s.volumes, v.state = .missing then gone else State.raise .tracking gone)
    ∧ ∀ s before : State,
      (before.jacketerFront = none → s.jacketerFront ≠ none → s.afterFront before = s.reevaluate Query.isFoldCall)
      ∧ (before.jacketerFront ≠ none ∨ s.jacketerFront = none → s.afterFront before = s)

/-- FOLD_CALL at its arrival, test by test: held without a front or in STOP; PLAIN for a title without a jacket part;
at the first matching jacket within the skip limit FOLD when the fold plan passes, and BARE when it fails, a run
jacket staying and a unit jacket ejected; without one BARE NO_JACKET at a full window and held otherwise. -/
def Obligations.FoldCallFindsJacket : Prop :=
  ∀ (s : State) (l : Line), s.Asks l .foldCall →
    let held := s.setSlot l (.held ⟨.foldCall, s.clock, s.profile.holdLimit⟩)
    let finished := fun (v : Volume) (f : Finish) (window : List WindowEntry) => { s with
      jacketWindow := window
      volumes := s.volumes.map fun u =>
        if u.number = v.number then { u with state := .jacketing, finish := some f } else u }
    let bare := fun (v : Volume) (why : BareReason) (eject : Nat) =>
      (State.raise .bare (finished v (.bare why) (s.jacketWindow.drop eject))).answerSlot l
        ⟨0x24, .bare, some (bareReason why), pack [(1, v.number), (1, eject)]⟩
    (s.jacketerFront = none ∨ s.governor.effective = .stop → exec (.foldCall l) s = .next held)
    ∧ ∀ v t, s.jacketerFront = some v → s.governor.effective ≠ .stop → s.title? v.title = some t →
      (t.jacket = none → exec (.foldCall l) s = .next (State.answerSlot l
        ⟨0x24, .plain, none, [BitVec.ofNat 8 v.number]⟩ (finished v .plain s.jacketWindow)))
      ∧ ∀ j, t.jacket = some j →
        let fit := fun e : WindowEntry =>
          e.double = false ∧ e.tag.title = v.title ∧ (t.marry = .run ∨ e.tag.number = v.unit)
        (∀ k e d, s.jacketWindow[k]? = some e → fit e →
          (∀ i e', i < k → s.jacketWindow[i]? = some e' → ¬ fit e') → k ≤ s.profile.jacketSkip → v.tOut = some d →
          (∀ f1 f2 f3 f4, foldPlan j d = .passes f1 f2 f3 f4 → exec (.foldCall l) s = .next (State.answerSlot l
            ⟨0x24, .fold, none, pack [(1, v.number), (1, k), (2, f1), (2, f2), (2, f3), (2, f4), (3, e.tag.title),
              (3, e.tag.number)]⟩ (finished v (.fold k f1 f2 f3 f4) (s.jacketWindow.drop (k + 1)))))
          ∧ ∀ why, foldPlan j d = .fails why →
            (t.marry = .run → exec (.foldCall l) s = .next (bare v why k))
            ∧ (t.marry = .unit → exec (.foldCall l) s = .next (bare v why (k + 1))))
        ∧ ((∀ i e, i ≤ s.profile.jacketSkip → s.jacketWindow[i]? = some e → ¬ fit e) →
          (s.jacketWindow.length < 4 → exec (.foldCall l) s = .next held)
          ∧ (4 ≤ s.jacketWindow.length → exec (.foldCall l) s = .next (bare v .noJacket 0)))

/-! ### Timers and condition lines -/

/-- HOLD_LIMIT_EXPIRY: a query BEHIND or HELD is answered then, whatever the state of the blocks, and never stays in its
slot; in another state of the slot the event cannot occur, and leaves the state alone (log entry 4). A query BEHIND is
answered WAIT without a volume number. (That the expiry carries the running clock to its time: log entry 3.) The answers
at the hold limit that a held query gets where nothing has come for it: NEXT_MOVE WAIT, and a GAUGE of a volume still
UNLOADING WAIT; a CASE_CALL or FOLD_CALL without a front, or at a pace that withholds its work, WAIT without a count;
for a front that waits for its title, its case or its jacket, a counted WAIT below the wait limit, and at the limit
DIVERT NO_TITLE or NO_CASE, or BARE NO_JACKET. -/
def Obligations.HoldLimitAnswersQuery : Prop :=
  (∀ (s : State) (l : Line),
    let wait := fun q : Query => match q with
      | .caseCall => (⟨0x21, .wait, none, [0xFF#8]⟩ : Answer)
      | .nextMove => ⟨0x22, .wait, none, []⟩
      | .gauge _ _ => ⟨0x23, .wait, none, []⟩
      | .foldCall => ⟨0x24, .wait, none, [0xFF#8]⟩
    (∀ h n, (s.station l).slot = .behind h n → exec (.holdLimitExpiry l) s
      = .next (State.answerSlot l (wait h.query) { s with clock := max s.clock (h.arrival + h.limit) }))
    ∧ (∀ h, (s.station l).slot = .held h → ∃ t, exec (.holdLimitExpiry l) s = .next t
      ∧ t.clock = max s.clock (h.arrival + h.limit)
      ∧ ∃ a, t.station l = ⟨.answered, (s.station l).output ++ [⟨a, true⟩], (s.station l).driven⟩)
    ∧ ((s.station l).slot = .empty ∨ (s.station l).slot = .answered → exec (.holdLimitExpiry l) s = .next s))
    ∧ (∀ (s : State) (l : Line) (h : HeldQuery), (s.station l).slot = .held h →
    let t := s.clockReaches (h.arrival + h.limit)
    (h.query = .nextMove → s.unloadCandidate = none → s.loadCandidate = none →
      exec (.holdLimitExpiry l) s = .next (t.answerSlot l ⟨0x22, .wait, none, []⟩))
    ∧ (∀ tag raw, h.query = .gauge (some tag) raw →
      (∀ v ∈ s.volumes, v.state = .onOutfeed ∨ v.state = .missing → v.caseTag ≠ some tag) →
      (∃ v ∈ s.volumes, v.state = .unloading ∧ v.caseTag = some tag) →
      exec (.holdLimitExpiry l) s = .next (t.answerSlot l ⟨0x23, .wait, none, []⟩))
    ∧ (h.query = .caseCall → s.caserFront = none →
      exec (.holdLimitExpiry l) s = .next (t.answerSlot l ⟨0x21, .wait, none, [0xFF#8]⟩))
    ∧ (h.query = .foldCall → s.jacketerFront = none →
      exec (.holdLimitExpiry l) s = .next (t.answerSlot l ⟨0x24, .wait, none, [0xFF#8]⟩))
    ∧ (∀ v, h.query = .caseCall → s.caserFront = some v →
      let wait : Answer := ⟨0x21, .wait, none, [BitVec.ofNat 8 v.number]⟩
      (s.Halted → exec (.holdLimitExpiry l) s = .next (t.answerSlot l wait))
      ∧ ∀ r, ¬ s.Halted → v.bound.bind BindPart.mark = none →
        (v.state = .awaitTitle ∧ r = .noTitle
          ∨ v.state = .awaitCase ∧ s.caseMatchFor v = none ∧ s.caseWindow.length < 8 ∧ r = .noCase) →
        (v.caseWaits + 1 < s.profile.waitLimit → exec (.holdLimitExpiry l) s
          = .next ((t.updVolume v.number fun u => { u with caseWaits := u.caseWaits + 1 }).answerSlot l wait))
        ∧ (s.profile.waitLimit ≤ v.caseWaits + 1 → exec (.holdLimitExpiry l) s
          = .next ((State.raise .divert (t.removeVolume .diverted v)).answerSlot l
            ⟨0x21, .divert, some r, [BitVec.ofNat 8 v.number]⟩)))
    ∧ (∀ v, h.query = .foldCall → s.jacketerFront = some v →
      let wait : Answer := ⟨0x24, .wait, none, [BitVec.ofNat 8 v.number]⟩
      (s.governor.effective = .stop → exec (.holdLimitExpiry l) s = .next (t.answerSlot l wait))
      ∧ ∀ tt j, s.governor.effective ≠ .stop → s.jacketOf v = some (tt, j) →
        usableMatch (jacketMatches tt v) s.profile.jacketSkip s.jacketWindow = none → s.jacketWindow.length < 4 →
        (v.jacketWaits + 1 < s.profile.waitLimit → exec (.holdLimitExpiry l) s
          = .next ((t.updVolume v.number fun u => { u with jacketWaits := u.jacketWaits + 1 }).answerSlot l wait))
        ∧ (s.profile.waitLimit ≤ v.jacketWaits + 1 → exec (.holdLimitExpiry l) s
          = .next ((State.raise .bare (t.updVolume v.number fun u =>
              { u with state := .jacketing, finish := some (.bare .noJacket) })).answerSlot l
            ⟨0x24, .bare, some .noJacket, pack [(1, v.number), (1, 0)]⟩))))

/-- DWELL_EXPIRY and OVERDWELL_EXPIRY. At its expiry time a CLOSED bay goes DONE, keeping it, with its overdwell timer
started; its volume goes PRESSED and a held NEXT_MOVE is evaluated again. A bay still DONE when its overdwell timer
runs out has its volume flagged OVERPRESSED.
IDLE_TIMER_EXPIRY takes the step-down from RUN to EASE, with the timer started for idle time 2, and from there to
CRAWL, with the timer stopped; RECOVERY_PERIOD_END takes the recovery cycle from SLOW to FAST and from FAST to SLOW.
Each has the pace computed anew. An expiry of a timer that does not run leaves the state as it is (log entry 4). (That
an expiry carries the running clock to its time: log entry 3.) -/
def Obligations.TimersExpire : Prop :=
  (∀ (s : State) (b : Fin 16) (r : Bay) (n e : Nat), s.bays[b.val]? = some r → r.volume = some n →
    (r.state = .closed → r.expiry = some e → exec (.dwellExpiry b) s
      = .next (State.reevaluate Query.isNextMove { s with
        clock := max s.clock e
        bays := s.bays.set b.val { r with
          state := .done, closedAt := none, overdwellDue := some (e + s.profile.overdwell * 1000) }
        volumes := s.volumes.map fun u => if u.number = n then { u with state := .pressed } else u }))
    ∧ (r.state = .done → r.overdwellDue = some e → exec (.overdwellExpiry b) s
      = .next (State.raise .overpress { s with
        clock := max s.clock e
        bays := s.bays.set b.val { r with overdwellDue := none }
        volumes := s.volumes.map fun u => if u.number = n then { u with overpressed := true } else u }))
    ∧ (r.state ≠ .closed → exec (.dwellExpiry b) s = .next s)
    ∧ (r.overdwellDue = none → exec (.overdwellExpiry b) s = .next s))
    ∧ (∀ (s : State) (e : Nat),
    let c := max s.clock e
    (s.governor.idleDue = some e → s.governor.stepDown = .run → exec .idleTimerExpiry s
      = .next (State.repaceReleasing { s with clock := c, governor := { s.governor with
          stepDown := .ease, idleDue := some (c + s.profile.idle2 * 1000) } }))
    ∧ (s.governor.idleDue = some e → s.governor.stepDown ≠ .run → exec .idleTimerExpiry s
      = .next (State.repaceReleasing { s with clock := c, governor := { s.governor with
          stepDown := .crawl, idleDue := none } }))
    ∧ (s.governor.recovery = .slow e → exec .recoveryPeriodEnd s
      = .next (State.repaceReleasing { s with clock := c, governor := { s.governor with
          recovery := .fast (c + s.profile.fastPeriod * 1000) } }))
    ∧ (s.governor.recovery = .fast e → exec .recoveryPeriodEnd s
      = .next (State.repaceReleasing { s with clock := c, governor := { s.governor with
          recovery := .slow (c + s.profile.slowPeriod * 1000) } }))
    ∧ (s.governor.idleDue = none → exec .idleTimerExpiry s = .next s)
    ∧ (s.governor.recovery = .idle → exec .recoveryPeriodEnd s = .next s))

/-- The four condition lines at a change of level. GUARD_OPEN asserted sets the guard latch and GLUE_READY deasserted,
with the option on, the glue latch, the LATCHED condition rising with the first; PLATEN_LOW starts or ends the
recovery cycle; PLATEN_COLD has no latch. Each has the pace computed anew. While the profile is loading only the level
is kept. -/
def Obligations.ConditionLinesReachGovernor : Prop :=
  ∀ (s : State),
    let g := s.governor
    let latched := fun (g' : Governor) =>
      if g.guardLatch || g.glueLatch then { s with governor := g' } else State.raise .latched { s with governor := g' }
    (s.phase = .running →
      (g.lines.guardOpen = false → exec (.guardOpenChange true) s = .next (State.repaceReleasing
        (latched { g with guardLatch := true, lines := { g.lines with guardOpen := true } })))
      ∧ (g.lines.guardOpen = true → exec (.guardOpenChange false) s = .next (State.repaceReleasing
        { s with governor := { g with lines := { g.lines with guardOpen := false } } }))
      ∧ (g.lines.glueReady = true → s.profile.glueLatch = true → exec (.glueReadyChange false) s
        = .next (State.repaceReleasing
          (latched { g with glueLatch := true, lines := { g.lines with glueReady := false } })))
      ∧ (g.lines.glueReady = true → s.profile.glueLatch = false → exec (.glueReadyChange false) s
        = .next (State.repaceReleasing { s with governor := { g with lines := { g.lines with glueReady := false } } }))
      ∧ (g.lines.glueReady = false → exec (.glueReadyChange true) s
        = .next (State.repaceReleasing { s with governor := { g with lines := { g.lines with glueReady := true } } }))
      ∧ (g.lines.platenLow = false → exec (.platenLowChange true) s
        = .next (State.repaceReleasing { s with governor := { g with
          lines := { g.lines with platenLow := true }
          recovery := if s.profile.cycling then .slow (s.clock + s.profile.slowPeriod * 1000) else g.recovery } }))
      ∧ (g.lines.platenLow = true → exec (.platenLowChange false) s
        = .next (State.repaceReleasing { s with governor := { g with
          lines := { g.lines with platenLow := false }, recovery := .idle } }))
      ∧ (∀ x, g.lines.platenCold ≠ x → exec (.platenColdChange x) s
        = .next (State.repaceReleasing { s with governor := { g with lines := { g.lines with platenCold := x } } })))
    ∧ (s.phase = .loading → ∀ x,
      exec (.guardOpenChange x) s = .next { s with governor := { g with lines := { g.lines with guardOpen := x } } }
      ∧ exec (.glueReadyChange x) s = .next { s with governor := { g with lines := { g.lines with glueReady := x } } }
      ∧ exec (.platenLowChange x) s = .next { s with governor := { g with lines := { g.lines with platenLow := x } } }
      ∧ exec (.platenColdChange x) s
        = .next { s with governor := { g with lines := { g.lines with platenCold := x } } })

/-- The pace computed anew: the effective pace becomes the lowest of the requested pace, the step-down and the
ceilings that stand, the PACE notice is raised exactly at a change, and the rise releases held queries: from HOLD or
STOP to CRAWL or above a CASE_CALL, and from STOP a NEXT_MOVE and a FOLD_CALL. The lowest pace is one of its inputs
and no input allows less: the requested pace, the step-down, and the ceiling of every condition, latch, count and
recovery phase that stands. -/
def Obligations.PaceIsLowestInput : Prop :=
  (∀ s : State,
    let low := s.lowestPace
    let old := s.governor.effective
    (low = old → s.repace = s ∧ s.repaceReleasing = s)
    ∧ (low ≠ old → s.repace = State.raise .pace { s with governor := { s.governor with effective := low } })
    ∧ (low ≠ old → paceRank low < paceRank old → s.repaceReleasing = s.repace)
    ∧ (old = .hold → 3 ≤ paceRank low → s.repaceReleasing = s.repace.reevaluate Query.isCaseCall)
    ∧ (old = .stop → low = .hold →
      s.repaceReleasing = (s.repace.reevaluate Query.isNextMove).reevaluate Query.isFoldCall)
    ∧ (old = .stop → 3 ≤ paceRank low → s.repaceReleasing
      = ((s.repace.reevaluate Query.isCaseCall).reevaluate Query.isNextMove).reevaluate Query.isFoldCall)
    ∧ (3 ≤ paceRank old → s.repaceReleasing = s.repace))
    ∧ (∀ s : State,
    let g := s.governor
    let vacant := s.vacantCount
    let ceilings : List (Bool × Pace) :=
      [(g.lines.guardOpen || g.guardLatch, .stop), (g.lines.platenCold, .stop),
       (!g.lines.glueReady || g.glueLatch, .hold), (g.lines.platenLow && !s.profile.cycling, .ease),
       (decide (vacant < s.profile.lowWater), .crawl), (decide (s.profile.highWater ≤ s.volumes.length), .crawl),
       (isSlow g.recovery, .ease)]
    paceRank s.lowestPace ≤ paceRank g.requested ∧ paceRank s.lowestPace ≤ paceRank g.stepDown
      ∧ (∀ c ∈ ceilings, c.1 = true → paceRank s.lowestPace ≤ paceRank c.2)
      ∧ (s.lowestPace = g.requested ∨ s.lowestPace = g.stepDown ∨ (true, s.lowestPace) ∈ ceilings))

/-! ### Title requests -/

/-- TITLE_LOAD refused, in the order of its checks: code 0, a resident code, a geometry field out of range or a
nominal fold plan that fails, and no slot to be had. Nothing changes. TITLE_LOAD accepted: the record, with its
process values clamped and nothing counted but the volumes it binds, takes the lowest EMPTY slot, or the slot of the
DORMANT title nearest the tail of the recency list, which is evicted with its notice. It goes to the head of the
recency list and its code off the miss list. Every volume in AWAIT_TITLE with the code is bound and counted, and a
CASE_CALL held for such a front is evaluated again. The ranges of the geometry fields, and the nominal fold plan, whose
spine fold spacing is the printed spine: both flaps are at least the minimum, and without a jacket part it passes. -/
def Obligations.TitleLoad : Prop :=
  (∀ g : GeometryGroup,
    (geometryInRange g = true ↔ g.marry ≤ 1 ∧ 20 ≤ g.tNom ∧ g.tNom ≤ 800 ∧ 10 ≤ g.board ∧ g.board ≤ 50
      ∧ ∀ j, g.jacket = some j → 2000 ≤ j.sheet ∧ j.sheet ≤ 9000 ∧ j.centre ≤ j.sheet ∧ 800 ≤ j.panel ∧ j.panel ≤ 3000
        ∧ 20 ≤ j.spine ∧ j.spine ≤ 900 ∧ j.wrap ≤ 50 ∧ j.growth ≤ 100 ∧ 400 ≤ j.minFlap ∧ j.minFlap ≤ 1500)
    ∧ (nominalPlanPasses g = true ↔ ∀ j, g.jacket = some j →
      (j.minFlap : Int) ≤ (j.centre : Int) - (j.spine / 2 : Nat) - j.panel
      ∧ (j.minFlap : Int) ≤ (j.sheet : Int) - ((j.centre : Int) - (j.spine / 2 : Nat) + j.spine + j.panel)))
    ∧ (∀ (s : State) (code : Nat) (g : GeometryGroup) (p : ProcessGroup), s.Awaiting → code ≤ 16777215 →
    let refused := fun r => State.answered ⟨0x40, .refused, some r, []⟩ s
    (code = 0 → exec (.titleLoad code g p) s = .next (refused .badValue))
    ∧ (code ≠ 0 → (∃ t ∈ s.titles, t.code = code) → exec (.titleLoad code g p) s = .next (refused .duplicate))
    ∧ (code ≠ 0 → (∀ t ∈ s.titles, t.code ≠ code) →
      (geometryInRange g = false → exec (.titleLoad code g p) s = .next (refused .badValue))
      ∧ (nominalPlanPasses g = false → exec (.titleLoad code g p) s = .next (refused .badValue))
      ∧ (geometryInRange g = true → nominalPlanPasses g = true → (∀ n < 48, ∃ t ∈ s.titles, t.slot = n) →
        (∀ t ∈ s.titles, titleState t ≠ .dormant) → exec (.titleLoad code g p) s = .next (refused .tableFull))))
    ∧ (∀ (s : State) (code : Nat) (g : GeometryGroup) (p : ProcessGroup) (n : Nat) (evicted : Option Nat)
    (kept : List Title), s.TablesBounded → s.Awaiting → code ≠ 0 → code ≤ 16777215 →
    (∀ t ∈ s.titles, t.code ≠ code) → geometryInRange g = true → nominalPlanPasses g = true →
    (evicted = none ∧ kept = s.titles ∧ n < 48 ∧ (∀ t ∈ s.titles, t.slot ≠ n)
        ∧ (∀ m < n, ∃ t ∈ s.titles, t.slot = m)
      ∨ (∀ m < 48, ∃ t ∈ s.titles, t.slot = m) ∧ ∃ before e after, s.titles = before ++ e :: after
        ∧ titleState e = .dormant ∧ (∀ t ∈ after, titleState t ≠ .dormant) ∧ n = e.slot ∧ evicted = some e.code
        ∧ kept = before ++ after) →
    let waits := fun v : Volume => v.state == .awaitTitle && v.title == code
    let c := s.volumes.countP waits
    let t : Title := {
      slot := n, code := code, marry := if g.marry = 1 then .unit else .run, tNom := g.tNom, board := g.board
      jacket := g.jacket, band := if p.band = 0 then .tight else if p.band = 2 then .openBand else .standard
      dwellBase := min p.dwellBase 600, dwellSlope := min p.dwellSlope 50, quota := p.quota, hold := false
      retiring := false, volumeCount := c, admitted := c, outJacketed := 0, outBare := 0, diverted := 0
      cleared := 0, quotaReached := false }
    let stored : State := { s.taken with
      titles := t :: kept
      missList := s.missList.filter fun m => m ≠ code
      volumes := s.volumes.map fun v => if waits v then { v with
          state := .awaitCase, ungauged := v.raw == 0 || v.raw == 2047
          bound := some (bindPart s.profile t v.raw) } else v }
    let noticed := if evicted.isSome then State.raise .evicted stored else stored
    let clamped := 600 < p.dwellBase ∨ 50 < p.dwellSlope ∨ 2 < p.band
    exec (.titleLoad code g p) s = .next (State.answered
      ⟨0x40, if clamped then .okClamped else .ok, none, pack [(3, evicted.getD 0), (1, c)]⟩
      (match s.caserFront with
        | some v => if waits v then noticed.reevaluate Query.isCaseCall else noticed
        | none => noticed)))

/-- TITLE_AMEND in the order of its checks. An accepted one stores each group it carries, the process values clamped,
clears quota reached where the run quota differs from the one stored before, and touches the title. (The ranges of the
geometry fields and the nominal fold plan are spelled out in TitleLoad.) -/
def Obligations.TitleAmendStoresGroups : Prop :=
  ∀ (s : State) (code : Nat) (p : Option ProcessGroup) (g : Option GeometryGroup), s.Awaiting →
    (p.isSome = true ∨ g.isSome = true) →
    let refused := fun r => State.answered ⟨0x41, .refused, some r, []⟩ s
    (code = 0 → exec (.titleAmend code p g) s = .next (refused .badValue))
    ∧ (code ≠ 0 → (∀ t ∈ s.titles, t.code ≠ code) → exec (.titleAmend code p g) s = .next (refused .notFound))
    ∧ ∀ t, code ≠ 0 → s.title? code = some t →
      (g.isSome = true → 0 < t.volumeCount → exec (.titleAmend code p g) s = .next (refused .inUse))
      ∧ (∀ gg, g = some gg → t.volumeCount = 0 → (geometryInRange gg = false ∨ nominalPlanPasses gg = false) →
        exec (.titleAmend code p g) s = .next (refused .badValue))
      ∧ ((s.titles.map Title.code).Nodup →
        (∀ gg, g = some gg → t.volumeCount = 0 ∧ geometryInRange gg = true ∧ nominalPlanPasses gg = true) →
        let u := match g with
          | none => t
          | some gg => { t with
              marry := if gg.marry = 1 then .unit else .run, tNom := gg.tNom, board := gg.board, jacket := gg.jacket }
        let w := match p with
          | none => u
          | some pp => { u with
              band := if pp.band = 0 then .tight else if pp.band = 2 then .openBand else .standard
              dwellBase := min pp.dwellBase 600, dwellSlope := min pp.dwellSlope 50, quota := pp.quota
              quotaReached := t.quotaReached && pp.quota == t.quota }
        let clamped := ∃ pp, p = some pp ∧ (600 < pp.dwellBase ∨ 50 < pp.dwellSlope ∨ 2 < pp.band)
        ∃ c : AnswerCode, (clamped → c = .okClamped) ∧ (¬ clamped → c = .ok)
          ∧ exec (.titleAmend code p g) s = .next (State.answered ⟨0x41, c, none, []⟩
            { s with titles := w :: s.titles.filter fun x => x.code ≠ code }))

/-- TITLE_HOLD, TITLE_FREE and TITLE_RETIRE of a resident title: the hold flag set (STATE for a RETIRING title) or
cleared; a retire removes a title without volumes at once and makes any other RETIRING. None touches the title. A
title request that names code 0 is refused BAD_VALUE, and one that names a code not resident NOT_FOUND. -/
def Obligations.TitleHoldFreeRetire : Prop :=
  (∀ (s : State) (code : Nat) (t : Title), s.Awaiting → code ≠ 0 → s.title? code = some t →
    let with_ := fun f : Title → Title => s.titles.map fun u => if u.code = code then f u else u
    (t.retiring = true →
      exec (.titleHold code) s = .next (State.answered ⟨0x42, .refused, some .state, []⟩ s))
    ∧ (t.retiring = false → exec (.titleHold code) s = .next (State.answered ⟨0x42, .ok, none, []⟩
      { s with titles := with_ fun u => { u with hold := true } }))
    ∧ exec (.titleFree code) s = .next (State.answered ⟨0x43, .ok, none, []⟩
      { s with titles := with_ fun u => { u with hold := false } })
    ∧ (t.volumeCount = 0 → exec (.titleRetire code) s = .next (State.answered ⟨0x44, .ok, none, [0#8]⟩
      { s with titles := s.titles.filter fun u => u.code ≠ code }))
    ∧ (0 < t.volumeCount → exec (.titleRetire code) s = .next (State.answered ⟨0x44, .ok, none, [1#8]⟩
      { s with titles := with_ fun u => { u with hold := false, retiring := true } })))
    ∧ (∀ (s : State) (code : Nat), s.Awaiting → (∀ t ∈ s.titles, t.code ≠ code) →
    let r := if code = 0 then Reason.badValue else .notFound
    exec (.titleHold code) s = .next (State.answered ⟨0x42, .refused, some r, []⟩ s)
    ∧ exec (.titleFree code) s = .next (State.answered ⟨0x43, .refused, some r, []⟩ s)
    ∧ exec (.titleRetire code) s = .next (State.answered ⟨0x44, .refused, some r, []⟩ s)
    ∧ exec (.titleRead code) s = .next (State.answered ⟨0x46, .refused, some r, []⟩ s))

/-- TITLE_READ of a resident title carries its record and its recency depth; TITLE_PURGE removes every DORMANT title
and answers their number; MISS_READ carries each code of the miss list with the number of volumes that wait for it. -/
def Obligations.TitleReadsAndPurge : Prop :=
  ∀ s : State, s.Awaiting →
    (∀ before t after, s.titles = before ++ t :: after → t.code ≠ 0 → (∀ u ∈ before, u.code ≠ t.code) →
      exec (.titleRead t.code) s = .next (State.answered ⟨0x46, .ok, none,
        pack [(3, t.code), (1, titleStateCode (titleState t)), (1, if t.hold then 1 else 0), (1, marryCode t.marry),
          (2, t.tNom), (1, t.board)]
        ++ (match t.jacket with
          | none => [0#8]
          | some j => pack [(1, 1), (2, j.sheet), (2, j.centre), (2, j.panel), (2, j.spine), (1, j.wrap), (1, j.growth),
              (2, j.minFlap)])
        ++ pack [(1, bandCode t.band), (2, t.dwellBase), (1, t.dwellSlope), (2, t.quota), (1, t.volumeCount),
          (4, t.admitted), (4, t.outJacketed), (4, t.outBare), (4, t.diverted), (4, t.cleared),
          (1, if t.quotaReached then 1 else 0), (1, before.length)]⟩ s))
    ∧ exec .titlePurge s = .next (State.answered ⟨0x45, .ok, none,
        pack [(1, (s.titles.filter fun t => titleState t == .dormant).length)]⟩
        { s with titles := s.titles.filter fun t => t.retiring || t.volumeCount != 0 || t.hold })
    ∧ exec .missRead s = .next (State.answered ⟨0x47, .ok, none, pack (s.missList.flatMap fun c =>
        [(3, c), (1, s.volumes.countP fun v => v.state == .awaitTitle && v.title == c)])⟩ s)

/-! ### Range requests and the lookup -/

/-- The lookup: the chosen entry is enabled and covers the serial, at its index, and no enabled entry that covers it
is of smaller size class; there is none exactly where no enabled entry covers the serial. The run of an enabled entry:
a serial matches it exactly from its base to the last of its 2^k serials, and its unit number is the unit base plus
the offset, less 16,777,216 where the sum passes 16,777,215. -/
def Obligations.LookupChoosesMostSpecific : Prop :=
  (∀ (s : State) (serial : Nat),
    let covers := fun e : RangeEntry => e.enabled = true ∧ serial / 2 ^ e.sizeClass = e.base / 2 ^ e.sizeClass
    (s.rangeFor serial = none ↔ ∀ e ∈ s.ranges, ¬ covers e)
    ∧ ∀ e i, s.rangeFor serial = some (e, i) → s.ranges[i]? = some e ∧ covers e
      ∧ ∀ e' ∈ s.ranges, covers e' → e.sizeClass ≤ e'.sizeClass)
    ∧ (∀ (e : RangeEntry) (serial : Nat), e.enabled = true → e.sizeClass ≤ 24 → e.base % 2 ^ e.sizeClass = 0 →
      e.unitBase ≤ 16777215 →
    (rangeMatches serial e = true ↔ e.base ≤ serial ∧ serial ≤ e.base + 2 ^ e.sizeClass - 1)
    ∧ (rangeMatches serial e = true → unitNumber e serial = (
      if e.unitBase + (serial - e.base) ≤ 16777215 then e.unitBase + (serial - e.base)
      else e.unitBase + (serial - e.base) - 16777216)))

/-- RANGE_SET: an index above 31, a size class out of 4 to 24, a title code 0 or a unit base above 16,777,215 is
BAD_VALUE; another enabled entry of
the same class and aligned base is OVERLAP with its index; otherwise the entry is replaced whole with the base rounded
down to a multiple of 2^k, and the answer, OK or OK_ALIGNED, carries the base as stored. RANGE_CLEAR clears the
enabled flag of the named entry alone; RANGE_READ carries the entry in its index form, and the chosen entry, its title
and the unit number in its serial form (NOT_FOUND without a match), and changes nothing. An index above 31 is
BAD_VALUE. -/
def Obligations.RangeSetClearRead : Prop :=
  (∀ (s : State) (i base k code unit : Nat), s.Awaiting → code ≤ 16777215 →
    let aligned := base / 2 ^ k * 2 ^ k
    let clash := fun j => j ≠ i ∧ ∃ e, s.ranges[j]? = some e ∧ e.enabled = true ∧ e.sizeClass = k ∧ e.base = aligned
    ((31 < i ∨ k < 4 ∨ 24 < k ∨ code = 0 ∨ 16777215 < unit) →
      exec (.rangeSet i base k code unit) s = .next (State.answered ⟨0x48, .refused, some .badValue, []⟩ s))
    ∧ (i ≤ 31 → 4 ≤ k → k ≤ 24 → code ≠ 0 → unit ≤ 16777215 →
      (∀ j, clash j → (∀ m < j, ¬ clash m) → exec (.rangeSet i base k code unit) s
        = .next (State.answered ⟨0x48, .refused, some .overlap, [BitVec.ofNat 8 j]⟩ s))
      ∧ ((∀ j, ¬ clash j) → exec (.rangeSet i base k code unit) s
        = .next (State.answered
          ⟨0x48, if base % 2 ^ k = 0 then .ok else .okAligned, none, pack [(4, aligned)]⟩
          { s with ranges := s.ranges.set i ⟨true, aligned, k, code, unit⟩ }))))
    ∧ (∀ s : State, s.Awaiting →
    (∀ i e, i ≤ 31 → s.ranges[i]? = some e →
      exec (.rangeClear i) s = .next (State.answered ⟨0x49, .ok, none, []⟩
        { s with ranges := s.ranges.set i { e with enabled := false } })
      ∧ exec (.rangeRead (.index i)) s = .next (State.answered ⟨0x4A, .ok, none,
        pack [(1, if e.enabled then 1 else 0), (4, e.base), (1, e.sizeClass), (3, e.code), (3, e.unitBase)]⟩ s))
    ∧ (∀ i, 31 < i →
      exec (.rangeClear i) s = .next (State.answered ⟨0x49, .refused, some .badValue, []⟩ s)
      ∧ exec (.rangeRead (.index i)) s = .next (State.answered ⟨0x4A, .refused, some .badValue, []⟩ s))
    ∧ (∀ n, s.rangeFor n = none →
      exec (.rangeRead (.serial n)) s = .next (State.answered ⟨0x4A, .refused, some .notFound, []⟩ s))
    ∧ ∀ n e i, s.rangeFor n = some (e, i) →
      exec (.rangeRead (.serial n)) s = .next (State.answered ⟨0x4A, .ok, none,
        pack [(1, i), (3, e.code), (3, (e.unitBase + (n - e.base)) % 16777216)]⟩ s))

/-! ### Volume and bay requests -/

/-- VOLUME_READ and VOLUME_FIND: a number above 63 is BAD_VALUE, a free slot and a serial no record carries are
NOT_FOUND; otherwise the record is read back (VOLUME_FIND puts its number before it), each field that may be absent
behind its presence byte, with its flags, its sequence and its depth there, the number of volumes ahead of it. Neither
changes anything. (The places of the bytes: log entry 17.) VOLUME_WRITEOFF:
BAD_VALUE above 63, NOT_FOUND for a free slot, STATE for a volume that is not MISSING, and the removal of one that is,
counted diverted, without the DIVERT notice. -/
def Obligations.VolumeRequests : Prop :=
  (∀ s : State, s.Awaiting →
    (∀ n, 63 < n → exec (.volumeRead n) s = .next (State.answered ⟨0x4B, .refused, some .badValue, []⟩ s))
    ∧ (∀ n, n ≤ 63 → (∀ v ∈ s.volumes, v.number ≠ n) →
      exec (.volumeRead n) s = .next (State.answered ⟨0x4B, .refused, some .notFound, []⟩ s))
    ∧ (∀ x, (∀ v ∈ s.volumes, v.serial ≠ x) →
      exec (.volumeFind x) s = .next (State.answered ⟨0x4C, .refused, some .notFound, []⟩ s))
    ∧ ∀ v ∈ s.volumes, s.TablesBounded →
      let may := fun (x : Option (List (Nat × Nat))) => match x with
        | none => [(1, 0)]
        | some fs => (1, 1) :: fs
      let bit := fun (b : Bool) (n : Nat) => if b then n else 0
      let isPrePress := fun u : Volume => decide (u.state ∈ [VolumeState.awaitTitle, .awaitCase, .casing, .cased])
      let ahead := fun l : List Nat => (l.takeWhile fun m => m ≠ v.number).length
      let sequence : Nat × Option Nat :=
        if isPrePress v then (1, some (ahead ((s.volumes.filter isPrePress).map Volume.number)))
        else if v.number ∈ s.postPress then (2, some (ahead s.postPress)) else (0, none)
      let record := pack ([(1, v.number), (4, v.serial), (3, v.title), (3, v.unit), (1, volumeStateCode v.state),
          (2, v.raw), (1, v.caseWaits), (1, v.jacketWaits)]
        ++ may (v.bound.map fun b => [(2, b.tBlk)]) ++ may (v.bound.map fun b => [(1, fitCode b.fit)])
        ++ may (v.bound.map fun b => [(2, b.wBook)])
        ++ may ((v.bound.bind BindPart.mark).map fun m => match m with
          | .misfit => [(1, 0x14)]
          | .noJaw => [(1, 0x15)])
        ++ may (v.caseTag.map fun t => [(3, t.title), (3, t.number)]) ++ may (v.bay.map fun b => [(1, b)])
        ++ may (v.dwell.map fun d => [(2, d)]) ++ may (v.tOut.map fun d => [(2, d)])
        ++ may (v.finish.map fun f => match f with
          | .fold e f1 f2 f3 f4 => [(1, 0x17), (1, e), (2, f1), (2, f2), (2, f3), (2, f4)]
          | .plain => [(1, 0x18)]
          | .bare .spineGrowth => [(1, 0x19), (1, 0x18)]
          | .bare .flapShort => [(1, 0x19), (1, 0x19)]
          | .bare .noJacket => [(1, 0x19), (1, 0x1A)])
        ++ [(1, bit v.ungauged 1 + bit v.overpressed 2 + bit v.pressFault 4 + bit v.unverified 8 + bit v.returned 16
          + bit v.outUngauged 32), (1, sequence.1)]
        ++ may (sequence.2.map fun d => [(1, d)]))
      exec (.volumeRead v.number) s = .next (State.answered ⟨0x4B, .ok, none, record⟩ s)
      ∧ exec (.volumeFind v.serial) s = .next (State.answered ⟨0x4C, .ok, none, pack [(1, v.number)] ++ record⟩ s))
    ∧ (∀ (s : State) (n : Nat), s.Awaiting →
    (63 < n → exec (.volumeWriteoff n) s = .next (State.answered ⟨0x4D, .refused, some .badValue, []⟩ s))
    ∧ (n ≤ 63 → s.volume? n = none →
      exec (.volumeWriteoff n) s = .next (State.answered ⟨0x4D, .refused, some .notFound, []⟩ s))
    ∧ ∀ v, n ≤ 63 → s.volume? n = some v →
      (v.state ≠ .missing →
        exec (.volumeWriteoff n) s = .next (State.answered ⟨0x4D, .refused, some .state, []⟩ s))
      ∧ (v.state = .missing → exec (.volumeWriteoff n) s
        = .next (State.answered ⟨0x4D, .ok, none, []⟩ (s.taken.removeVolume .diverted v))))

/-- BAY_SERVICE in each state of the bay. Out: VACANT and FAULTED go OUT_OF_SERVICE, an occupied bay takes
service-out-pending. In: FAULTED and OUT_OF_SERVICE go VACANT from now and a held NEXT_MOVE is evaluated again, an
occupied bay loses service-out-pending. The vacant count goes to the governor, and the answer carries the bay's state
and pending flags after the request. BAY_READ carries one bay's record in its bay form and the states, the assignments
and the vacant count of the bank in its bank form, each with the running clock, and changes nothing. (The layout, with a
presence byte before the volume number and before each time, is the model's choice: log entry 17.) A bay above 15 is
BAD_VALUE in both requests. -/
def Obligations.BayRequests : Prop :=
  (∀ (s : State) (b : Nat) (r : Bay), s.Awaiting → b ≤ 15 → s.bays[b]? = some r →
    let occupied := r.state = .reserved ∨ r.state = .closed ∨ r.state = .done ∨ r.state = .emptying
    let put := fun r' : Bay => { s.taken with bays := s.bays.set b r' }
    let answer := fun r' : Bay => (⟨0x4E, .ok, none, pack [(1, bayStateCode r'.state),
      (1, (if r'.faultPending then 1 else 0) + if r'.servicePending then 2 else 0)]⟩ : Answer)
    let done := fun r' : Bay => State.answered (answer r') (put r').repace
    (r.state = .vacant → exec (.bayService b 0) s = .next (done { r with state := .outOfService, vacated := none }))
    ∧ (r.state = .faulted → exec (.bayService b 0) s = .next (done { r with state := .outOfService }))
    ∧ (r.state = .outOfService → exec (.bayService b 0) s = .next (done r))
    ∧ (occupied → exec (.bayService b 0) s = .next (done { r with servicePending := true }))
    ∧ (r.state = .vacant → exec (.bayService b 1) s = .next (done r))
    ∧ (occupied → exec (.bayService b 1) s = .next (done { r with servicePending := false }))
    ∧ (r.state = .faulted ∨ r.state = .outOfService →
      let t := (put ⟨.vacant, none, some s.clock, none, none, none, false, false⟩).repace.reevaluate Query.isNextMove
      ∃ r', t.bays[b]? = some r' ∧ exec (.bayService b 1) s = .next (State.answered (answer r') t))
    ∧ ∀ d, 1 < d → exec (.bayService b d) s = .next (State.answered ⟨0x4E, .refused, some .form, []⟩ s))
    ∧ (∀ s : State, s.Awaiting →
    (∀ b, 15 < b → exec (.bayRead (.bay b)) s = .next (State.answered ⟨0x4F, .refused, some .badValue, []⟩ s)
      ∧ ∀ d, exec (.bayService b d) s = .next (State.answered ⟨0x4E, .refused, some .badValue, []⟩ s))
    ∧ (∀ b r g, b ≤ 15 → s.bays[b]? = some r → s.profile.assignment[b]? = some g →
      let may := fun (w : Nat) (x : Option Nat) => match x with
        | none => [(1, 0)]
        | some n => [(1, 1), (w, n)]
      exec (.bayRead (.bay b)) s = .next (State.answered ⟨0x4F, .ok, none,
        pack ([(1, groupCode g), (1, bayStateCode r.state)] ++ may 1 r.volume ++ may 6 r.vacated ++ may 6 r.closedAt
          ++ may 6 r.expiry
          ++ [(1, (if r.faultPending then 1 else 0) + if r.servicePending then 2 else 0), (6, s.clock)])⟩ s))
    ∧ exec (.bayRead .bank) s = .next (State.answered ⟨0x4F, .ok, none,
        pack (s.bays.map (fun r => (1, bayStateCode r.state)) ++ s.profile.assignment.map (fun g => (1, groupCode g))
          ++ [(1, s.vacantCount), (6, s.clock)])⟩ s))

/-! ### Pace and notice requests -/

/-- PACE_SET stores the class and acts on the step-down: at RUN the idle timer starts for idle time 1, at any other
class it stops. The pace is computed anew, and the answer carries the requested and the effective pace (that it is the
pace after everything the request set going: log entry 12). A byte above 4 is BAD_VALUE. PACE_RELEASE clears each
standing latch whose condition is clear and leaves the others, has the pace computed anew, and answers the latches
that still stand. -/
def Obligations.PaceSetAndRelease : Prop :=
  (∀ s : State, s.Awaiting →
    (∀ n, 4 < n → exec (.paceSet n) s = .next (State.answered ⟨0x50, .refused, some .badValue, []⟩ s))
    ∧ ∀ n p, (n, p) ∈ ([(0, .stop), (1, .hold), (2, .crawl), (3, .ease), (4, .run)] : List (Nat × Pace)) →
      let t := State.repaceReleasing { s.taken with governor := { s.governor with
        requested := p, stepDown := .run
        idleDue := if p = .run then some (s.clock + s.profile.idle1 * 1000) else none } }
      exec (.paceSet n) s
        = .next (State.answered ⟨0x50, .ok, none, pack [(1, n), (1, paceCode t.governor.effective)]⟩ t))
    ∧ (∀ s : State, s.Awaiting →
    let guard := s.governor.guardLatch && s.governor.lines.guardOpen
    let glue := s.governor.glueLatch && !s.governor.lines.glueReady
    exec .paceRelease s = .next (State.answered
      ⟨0x51, .ok, none, pack [(1, (if guard then 1 else 0) + if glue then 2 else 0)]⟩
      (State.repaceReleasing { s.taken with governor := { s.governor with guardLatch := guard, glueLatch := glue } })))

/-- STATUS_READ carries the paces, the pace lines' code, the condition lines, the standing ceilings and latches, the
step-down and the recovery cycle with the time left, and the counts, and changes nothing. The standing ceilings are
guard, cold platens, glue, low platens, vacant bays, fill and recovery cycle in bits 0 to 6; that guard and glue stand
with their latches too is log entry 13. (The presence bytes before the times left of the idle timer and of the recovery
cycle: log entry 17.) The vacant count is the number of VACANT bays with a jaw group assigned, and the classes have the
codes 0 to 4. The pace lines carry the effective pace in its code, and classes next to each other in rank differ on one
line. -/
def Obligations.StatusReadAndPaceLines : Prop :=
  (∀ s : State, s.Awaiting →
    let g := s.governor
    let bits := fun (bs : List Bool) => (bs.foldr (fun b n => (if b then 1 else 0) + 2 * n) 0 : Nat)
    let may := fun (x : Option Nat) => match x with
      | none => [(1, 0)]
      | some t => [(1, 1), (6, t - s.clock)]
    let titles := fun st => (s.titles.filter fun t => titleState t == st).length
    exec .statusRead s = .next (State.answered ⟨0x52, .ok, none, pack (
      [(1, paceCode g.requested), (1, paceCode g.effective), (1, s.paceLines.toNat),
       (1, bits [g.lines.glueReady, g.lines.platenLow, g.lines.platenCold, g.lines.guardOpen]),
       (1, bits [g.lines.guardOpen || g.guardLatch, g.lines.platenCold, !g.lines.glueReady || g.glueLatch,
         g.lines.platenLow && !s.profile.cycling, decide (s.vacantCount < s.profile.lowWater),
         decide (s.profile.highWater ≤ s.volumes.length), (match g.recovery with
           | .slow _ => true
           | _ => false)]),
       (1, bits [g.guardLatch, g.glueLatch]), (1, paceCode g.stepDown)]
      ++ may g.idleDue
      ++ (match g.recovery with
        | .idle => [(1, 0), (1, 0)]
        | .slow e => [(1, 1), (1, 1), (6, e - s.clock)]
        | .fast e => [(1, 2), (1, 1), (6, e - s.clock)])
      ++ [(1, s.vacantCount), (1, s.volumes.length), (1, titles .dormant), (1, titles .active),
          (1, titles .retiring), (1, s.missList.length), (1, (s.volumes.filter fun v => v.state == .missing).length),
          (1, (s.bays.filter fun r => r.state == .faulted).length), (6, s.clock)])⟩ s))
    ∧ (∀ s : State,
    (s.governor.effective = .stop → s.paceLines = 0b000#3) ∧ (s.governor.effective = .hold → s.paceLines = 0b001#3)
    ∧ (s.governor.effective = .crawl → s.paceLines = 0b011#3) ∧ (s.governor.effective = .ease → s.paceLines = 0b111#3)
    ∧ (s.governor.effective = .run → s.paceLines = 0b110#3))
    ∧ (∀ s : State, s.vacantCount = ((List.range s.bays.length).filter fun b =>
      match s.bays[b]?, s.profile.assignment[b]? with
        | some r, some (some _) => r.state == .vacant
        | _, _ => false).length)
    ∧ ∀ p : Pace, paceCode p = match p with
      | .stop => 0 | .hold => 1 | .crawl => 2 | .ease => 3 | .run => 4

/-- NOTICE_ENABLE writes the enables and sets at once the flag of each enabled level kind whose condition is true,
keeping every flag that stood; its answer carries the enables and the flags. Bit 14 or 15 set is BAD_VALUE.
NOTICE_CLEAR clears the flag of each kind named and leaves the others; a named level kind that is enabled and whose
condition is true is set again at once. The enables are unchanged, and the answer carries the flags. Bit 14 or 15 set
is BAD_VALUE. -/
def Obligations.NoticeEnableAndClear : Prop :=
  (∀ (s : State) (m : Nat), s.Awaiting →
    (2 ^ 14 ≤ m → exec (.noticeEnable m) s = .next (State.answered ⟨0x53, .refused, some .badValue, []⟩ s))
    ∧ (m < 2 ^ 14 → ∃ flags : BitVec 14,
      (∀ k : Notice, flags.getLsbD (noticeBit k) = (s.notices.flags.getLsbD (noticeBit k)
        || (m.testBit (noticeBit k) && s.conditions.getLsbD (noticeBit k))))
      ∧ exec (.noticeEnable m) s = .next (State.answered ⟨0x53, .ok, none, pack [(2, m), (2, flags.toNat)]⟩
        { s with notices := ⟨BitVec.ofNat 14 m, flags⟩ })))
    ∧ (∀ (s : State) (m : Nat), s.Awaiting →
    (2 ^ 14 ≤ m → exec (.noticeClear m) s = .next (State.answered ⟨0x54, .refused, some .badValue, []⟩ s))
    ∧ (m < 2 ^ 14 → ∃ flags : BitVec 14,
      (∀ k : Notice, flags.getLsbD (noticeBit k) = if m.testBit (noticeBit k)
        then s.notices.enables.getLsbD (noticeBit k) && s.conditions.getLsbD (noticeBit k)
        else s.notices.flags.getLsbD (noticeBit k))
      ∧ exec (.noticeClear m) s = .next (State.answered ⟨0x54, .ok, none, pack [(2, flags.toNat)]⟩
        { s with notices := ⟨s.notices.enables, flags⟩ })))

/-- NOTICE_READ carries the flags, the enables and the present truth of the four level conditions, and changes
nothing. The conditions are those of their owners, an event kind has none, and a kind raised sets its flag exactly
when enabled, leaving every other flag. ATTENTION is asserted exactly when a notice is both enabled and flagged. -/
def Obligations.NoticesReadAndRaised : Prop :=
  (∀ s : State, s.Awaiting →
      let bit := fun (b : Bool) (n : Nat) => if b then n else 0
      exec .noticeRead s = .next (State.answered ⟨0x55, .ok, none,
        pack [(2, s.notices.flags.toNat), (2, s.notices.enables.toNat),
          (1, bit (s.missList != []) 1 + bit (s.bays.any fun r => r.state == .faulted) 2
            + bit (s.volumes.any fun v => v.state == .missing) 4
            + bit (s.governor.guardLatch || s.governor.glueLatch) 8)]⟩ s))
    ∧ (∀ (s : State) (k : Notice), s.conditions.getLsbD (noticeBit k) = (match k with
      | .titleMiss => s.missList != []
      | .bayFault => s.bays.any fun r => r.state == .faulted
      | .tracking => s.volumes.any fun v => v.state == .missing
      | .latched => s.governor.guardLatch || s.governor.glueLatch
      | _ => false))
    ∧ (∀ (s : State) (k j : Notice),
      (State.raise k s).notices.flags.getLsbD (noticeBit j) = (s.notices.flags.getLsbD (noticeBit j)
        || (j == k && s.notices.enables.getLsbD (noticeBit j)))
      ∧ State.raise k s = { s with notices := ⟨s.notices.enables, (State.raise k s).notices.flags⟩ })
    ∧ ∀ s : State, s.attention = true ↔ ∃ k : Notice,
      s.notices.enables.getLsbD (noticeBit k) = true ∧ s.notices.flags.getLsbD (noticeBit k) = true

/-! ### Line clear -/

/-- LINE_CLEAR: NOT_STOPPED in any pace but STOP, changing nothing. In STOP, from a state whose tables are sound,
every volume record goes, counted cleared on its title; a RETIRING title goes with its last; the windows, the miss
list and the report queue are empty; each occupied bay is VACANT from now; the queries BEHIND and HELD are dropped;
every other title, bay, range, limit, latch and enable stays, and only RETIRED can be flagged. The answer counts the
records. -/
def Obligations.LineClearEmptiesLine : Prop :=
  ∀ s : State, s.Awaiting →
    (s.governor.effective ≠ .stop →
      exec .lineClear s = .next (State.answered ⟨0x59, .refused, some .notStopped, []⟩ s))
    ∧ (s.governor.effective = .stop → s.TablesBounded → s.TitlesCounted → s.MissesSound → s.PaceSettled →
      (∀ n ∈ s.postPress, ∃ v ∈ s.volumes, v.number = n) →
      exec .lineClear s = .next (State.answered ⟨0x59, .ok, none, pack [(1, s.volumes.length)]⟩
        (let cleared : State := { s with
          volumes := [], postPress := [], missList := [], caseWindow := [], jacketWindow := [], reports := []
          titles := (s.titles.filter fun t => !t.retiring).map fun t => { t with
            volumeCount := 0
            cleared := if t.volumeCount = 0 then t.cleared else min (t.cleared + t.volumeCount) 4294967295 }
          bays := s.bays.map fun r =>
            if r.state = .reserved ∨ r.state = .closed ∨ r.state = .done ∨ r.state = .emptying
            then ⟨.vacant, none, some s.clock, none, none, none, false, false⟩ else r
          stations := s.stations.map fun r => { r with slot := match r.slot with
            | .behind _ _ => .empty
            | .held _ => .empty
            | x => x } }
        if s.titles.any (fun t => t.retiring) then State.raise .retired cleared else cleared)))

/-! ### Gauge arithmetic -/

/-- Every division is round-half-even: the nearest whole number to the quotient, and the even one of two as near. The
dwell at a LOAD: the base and the slope's part, a quarter more under low platens, clamped into 20 to 900 after the
correction. -/
def Obligations.DivisionAndDwell : Prop :=
  (∀ x n : Nat, 0 < n →
    let q := roundHalfEven x n
    2 * x ≤ (2 * q + 1) * n ∧ (2 * q - 1) * n ≤ 2 * x
      ∧ (2 * x = (2 * q + 1) * n → q % 2 = 0) ∧ (2 * x = (2 * q - 1) * n → 0 < q → q % 2 = 0))
    ∧ (∀ (base slope tBlk : Nat) (low : Bool),
    let raw := base + roundHalfEven (slope * tBlk) 10
    let d := if low then roundHalfEven (raw * 5) 4 else raw
    20 ≤ dwellOf base slope tBlk low ∧ dwellOf base slope tBlk low ≤ 900
      ∧ dwellOf base slope tBlk low = (if d < 20 then 20 else if 900 < d then 900 else d))

/-- The fit class of a difference under each band, both limits inclusive. The bind part: the thickness is a good
reading halved, never below 1, with its fit class under the title's band, and for a failed one the nominal thickness
with the class FIT; two boards are added for the press; the
divert mark is MISFIT for REJECT, else NO_JAW where no jaw group with a bay covers the press thickness, else none. A jaw
group covers a press thickness from its minimum to its maximum, both inclusive. -/
def Obligations.BindPartAndFitClass : Prop :=
  (∀ tBlk tNom : Nat,
    let d := ((tBlk : Int) - tNom).natAbs
    (fitClass .tight tBlk tNom = if d ≤ 3 then .fit else if d ≤ 8 then .marginal else .reject)
    ∧ (fitClass .standard tBlk tNom = if d ≤ 6 then .fit else if d ≤ 15 then .marginal else .reject)
    ∧ (fitClass .openBand tBlk tNom = if d ≤ 10 then .fit else if d ≤ 25 then .marginal else .reject))
    ∧ (∀ (p : Profile) (t : Title) (raw : Nat), raw ≤ 2047 →
    let b := bindPart p t raw
    (raw = 0 ∨ raw = 2047 → b.tBlk = t.tNom ∧ b.fit = .fit)
    ∧ (1 ≤ raw → raw ≤ 2046 → b.tBlk = max 1 (roundHalfEven raw 2) ∧ 1 ≤ b.tBlk ∧ b.tBlk ≤ 1023
      ∧ b.fit = fitClass t.band b.tBlk t.tNom)
    ∧ b.wBook = b.tBlk + 2 * t.board
    ∧ (b.mark = some .misfit ↔ b.fit = .reject)
    ∧ (b.mark = none ↔ b.fit ≠ .reject ∧ ∃ g, some g ∈ p.assignment ∧ groupHolds p g b.wBook = true))
    ∧ ∀ (p : Profile) (w : Nat),
      let covers := fun (g : JawGroup) (i : Nat) =>
        (groupHolds p g w = true ↔ ∃ r, p.jaws[i]? = some r ∧ r.least ≤ w ∧ w ≤ r.greatest)
      covers .a 0 ∧ covers .b 1 ∧ covers .c 2 ∧ covers .d 3

/-- The fold plan: SPINE_GROWTH when the spacing is further from the printed spine than the growth limit, before
FLAP_SHORT when a flap is below its minimum; otherwise four positions, the spine folds one spacing apart about the
printed centre, the panel folds one panel outside them, and both flaps at least the minimum. -/
def Obligations.FoldPlanChecksAndPositions : Prop :=
  ∀ (j : JacketPart) (tOut : Nat),
    let spacing := tOut + j.wrap
    (foldPlan j tOut = .fails .spineGrowth ↔ j.growth < ((spacing : Int) - j.spine).natAbs)
    ∧ foldPlan j tOut ≠ .fails .noJacket
    ∧ (foldPlan j tOut = .fails .flapShort ↔ ((spacing : Int) - j.spine).natAbs ≤ j.growth
      ∧ ((j.centre : Int) - (spacing / 2 : Nat) - j.panel < j.minFlap
        ∨ (j.sheet : Int) - ((j.centre : Int) - (spacing / 2 : Nat) + spacing + j.panel) < j.minFlap))
    ∧ ∀ f1 f2 f3 f4, foldPlan j tOut = .passes f1 f2 f3 f4 →
      f2 + spacing / 2 = j.centre ∧ f3 = f2 + spacing ∧ f1 + j.panel = f2 ∧ f4 = f3 + j.panel
        ∧ j.minFlap ≤ f1 ∧ f4 + j.minFlap ≤ j.sheet

/-! ### What every step keeps -/

/-- At State.reset, the device reset of power-on, every promise below holds. That the working profile holds the
defaults there is the model's choice (log entry 6). -/
def Obligations.ResetIsSound : Prop :=
  State.reset.TablesBounded ∧ State.reset.TitlesBalanced ∧ State.reset.RangesSound ∧ State.reset.MissesSound
    ∧ State.reset.PostPressSound ∧ State.reset.WaitersUngauged ∧ State.reset.TagsDistinct ∧ State.reset.PaceSettled
    ∧ State.reset.profile.Legal ∧ State.reset.SaveGuarded

/-- Every step keeps the sizes of the tables, and their slots, numbers, codes and serials distinct. -/
def Obligations.StepsKeepTablesBounded : Prop :=
  ∀ s t : State, s.TablesBounded → step s = .next t → t.TablesBounded

/-- Every step keeps the counts: the volume count of a title is the number of volumes bound to it, a bound volume's
title is resident, a RETIRING title has a volume, and the counters balance while none has reached its maximum. -/
def Obligations.StepsKeepTitlesBalanced : Prop :=
  ∀ s t : State, s.TitlesBalanced → step s = .next t → t.TitlesBalanced

/-- Every step of well-formed commands keeps the range map sound: an enabled entry holds an aligned base of 32 bits and
values in their ranges, and no two enabled entries cover the same run. -/
def Obligations.StepsKeepRangesSound : Prop :=
  ∀ s t : State, s.RangesSound → (∀ i ∈ s.pending, i.wellFormed = true) → step s = .next t → t.RangesSound

/-- Every step keeps bays and volumes referring to each other in the states that belong together, and the miss list
the list of the absent codes that volumes wait for. Every step keeps the post-press sequence sound: it holds, without
repeats, exactly the volumes in UNLOADING, ON_OUTFEED, AWAIT_JACKET and JACKETING, the passed part in front. -/
def Obligations.StepsKeepBaysAndMissesLinked : Prop :=
  (∀ s t : State, s.MissesSound → step s = .next t → t.MissesSound)
    ∧ ∀ s t : State, s.PostPressSound → step s = .next t → t.PostPressSound

/-- Every step keeps every case tag in use once: no two volumes carry one tag, and none carries that of a window entry
clear of DOUBLE. -/
def Obligations.StepsKeepTagsDistinct : Prop :=
  ∀ s t : State, s.TagsDistinct → step s = .next t → t.TagsDistinct

/-- Every step keeps the effective pace at the lowest of its inputs, once every change of the step has been made. -/
def Obligations.StepsKeepPaceSettled : Prop :=
  ∀ s t : State, s.PaceSettled → step s = .next t → t.PaceSettled

/-- Every step keeps the working profile legal, and the marker of the store invalid while a save is WRITING. That a load
never leaves an illegal profile rests on log entry 11 (fields that clash once a default stands in take their defaults
too), that DEVICE_RESET leaves the profile as it was until the load on log entry 30, and that the marker is invalid
from the acceptance of a save on log entry 10. -/
def Obligations.StepsKeepProfileLegal : Prop :=
  (∀ s t : State, s.profile.Legal → step s = .next t → t.profile.Legal)
    ∧ ∀ s t : State, s.SaveGuarded → step s = .next t → t.SaveGuarded

/-! ### What only some commands change -/

/-- Beside DEVICE_RESET, the range map changes at RANGE_SET and RANGE_CLEAR alone, the requested pace at PACE_SET, the
enables at NOTICE_ENABLE, the working profile at PROFILE_SET and PROFILE_LOAD, and the profile store at PROFILE_SAVE and
the two ends of a save (the moments at which a save reaches the store: log entry 10). Beside DEVICE_RESET, the running
clock never goes back, only NOTICE_CLEAR takes a flag away, only PACE_RELEASE takes a latch away, and a flag of a kind
whose enable is clear is set by no command. -/
def Obligations.OwnersChangeRecords : Prop :=
  (∀ (c : Instr) (s t : State), exec c s = .next t → c ≠ .deviceReset →
    (t.ranges ≠ s.ranges → (∃ i b k code u, c = .rangeSet i b k code u) ∨ ∃ i, c = .rangeClear i)
    ∧ (t.governor.requested ≠ s.governor.requested → ∃ n, c = .paceSet n)
    ∧ (t.notices.enables ≠ s.notices.enables → ∃ m, c = .noticeEnable m)
    ∧ (t.profile ≠ s.profile → (∃ n fields, c = .profileSet n fields) ∨ ∃ a, c = .profileLoad a)
    ∧ (t.store ≠ s.store → c = .profileSave ∨ c = .profileSaveDone ∨ ∃ n, c = .profileSaveFailed n))
    ∧ (∀ (c : Instr) (s t : State), exec c s = .next t → c ≠ .deviceReset →
    s.clock ≤ t.clock
    ∧ ((∀ m, c ≠ .noticeClear m) → s.notices.flags &&& t.notices.flags = s.notices.flags)
    ∧ ((∀ m, c ≠ .noticeEnable m) → ∀ k : Notice, s.notices.enables.getLsbD (noticeBit k) = false →
      s.notices.flags.getLsbD (noticeBit k) = false → t.notices.flags.getLsbD (noticeBit k) = false)
    ∧ (c ≠ .paceRelease → (s.governor.guardLatch = true → t.governor.guardLatch = true)
      ∧ (s.governor.glueLatch = true → t.governor.glueLatch = true)))

/-- A volume record once made keeps its number, its serial, its title and unit and its raw reading, and each of its
flags once set, until it is removed: a record that stands after a command under a number that a record had before,
with the same serial, is that record. The premise that a volume in AWAIT_TITLE has UNGAUGED clear, as its bind writes
that flag, is kept by every step. -/
def Obligations.VolumeRecordsKeepIdentity : Prop :=
  (∀ s t : State, s.WaitersUngauged → step s = .next t → t.WaitersUngauged)
    ∧ ∀ (c : Instr) (s t : State) (v w : Volume), s.TablesBounded → s.WaitersUngauged → exec c s = .next t →
    v ∈ s.volumes → w ∈ t.volumes → w.number = v.number → w.serial = v.serial →
    w.title = v.title ∧ w.unit = v.unit ∧ w.raw = v.raw
      ∧ (v.ungauged = true → w.ungauged = true) ∧ (v.overpressed = true → w.overpressed = true)
      ∧ (v.pressFault = true → w.pressFault = true) ∧ (v.unverified = true → w.unverified = true)
      ∧ (v.returned = true → w.returned = true) ∧ (v.outUngauged = true → w.outUngauged = true)
end

