-- ==== Sys2Proof/Laws/Bytes.lean ====
section
/-! SUPPORT. Little-endian fields: a number read back from its bytes, and fields read back from where they were
packed. -/

namespace Sys2Proof.Machine

@[simp] theorem le_length (n x : Nat) : (le n x).length = n := by
  induction n generalizing x with
  | zero => rfl
  | succ n ih => simp [le, ih]

theorem ofLe_le (n x : Nat) : ofLe (le n x) = x % 256 ^ n := by
  induction n generalizing x with
  | zero => simp [le, ofLe, Nat.mod_one]
  | succ n ih =>
    simp only [le, ofLe, BitVec.toNat_ofNat, ih]
    have h : 256 ^ (n + 1) = 256 * 256 ^ n := by rw [Nat.pow_succ, Nat.mul_comm]
    rw [h, Nat.mod_mul]

theorem ofLe_le_of_lt {n x : Nat} (h : x < 256 ^ n) : ofLe (le n x) = x := by
  rw [ofLe_le, Nat.mod_eq_of_lt h]

theorem ofLe_lt (bs : List Byte) : ofLe bs < 256 ^ bs.length := by
  induction bs with
  | nil => simp [ofLe]
  | cons b bs ih =>
    have := b.isLt
    simp only [ofLe, List.length_cons, pow_succ]
    omega

theorem le_ofLe (bs : List Byte) : le bs.length (ofLe bs) = bs := by
  induction bs with
  | nil => rfl
  | cons b bs ih =>
    have hb := b.isLt
    have h1 : (b.toNat + 256 * ofLe bs) / 256 = ofLe bs := by omega
    have h2 : BitVec.ofNat 8 (b.toNat + 256 * ofLe bs) = b := by
      apply BitVec.eq_of_toNat_eq
      simp only [BitVec.toNat_ofNat]
      omega
    simp only [ofLe, List.length_cons, le, h1, h2, ih]

theorem pack_length (fields : List (Nat × Nat)) : (pack fields).length = (fields.map Prod.fst).sum := by
  induction fields with
  | nil => rfl
  | cons f fields ih =>
    simp only [pack, List.flatMap_cons, List.length_append, le_length, List.map_cons, List.sum_cons] at *
    omega

/-- Fields that fit their widths are read back from where they were packed. -/
theorem readFields_pack (fields : List (Nat × Nat)) (rest : List Byte) (h : ∀ f ∈ fields, f.2 < 256 ^ f.1) :
    readFields (fields.map Prod.fst) (pack fields ++ rest) = fields.map Prod.snd := by
  induction fields with
  | nil => rfl
  | cons f fields ih =>
    have h1 := ofLe_le_of_lt (h f (by simp))
    have h2 := ih fun g hg => h g (by simp [hg])
    have h3 : (le f.1 f.2).length = f.1 := le_length _ _
    simp only [pack, List.flatMap_cons, List.map_cons, readFields, List.append_assoc] at *
    rw [List.take_left' h3, List.drop_left' h3, h1, h2]

theorem cut_pack (fields : List (Nat × Nat)) (h : ∀ f ∈ fields, f.2 < 256 ^ f.1) :
    cut (fields.map Prod.fst) (pack fields) = some (fields.map Prod.snd) := by
  have h2 := readFields_pack fields [] h
  simp only [List.append_nil] at h2
  simp [cut, pack_length, h2]

end Sys2Proof.Machine
end

