-- ==== Sys2Proof/Laws/State.lean ====
section
/-! SUPPORT. One lemma for each field of the state after each plain update: what the update stores, and what it
leaves. -/

namespace Sys2Proof.Machine

variable (s : State)

@[simp] theorem State.clockReaches_phase (t : Nat) : (State.clockReaches t s).phase = s.phase := rfl
@[simp] theorem State.clockReaches_clock (t : Nat) : (State.clockReaches t s).clock = max s.clock t := rfl
@[simp] theorem State.clockReaches_titles (t : Nat) : (State.clockReaches t s).titles = s.titles := rfl
@[simp] theorem State.clockReaches_missList (t : Nat) : (State.clockReaches t s).missList = s.missList := rfl
@[simp] theorem State.clockReaches_ranges (t : Nat) : (State.clockReaches t s).ranges = s.ranges := rfl
@[simp] theorem State.clockReaches_volumes (t : Nat) : (State.clockReaches t s).volumes = s.volumes := rfl
@[simp] theorem State.clockReaches_postPress (t : Nat) : (State.clockReaches t s).postPress = s.postPress := rfl
@[simp] theorem State.clockReaches_caseWindow (t : Nat) : (State.clockReaches t s).caseWindow = s.caseWindow := rfl
@[simp] theorem State.clockReaches_jacketWindow (t : Nat) : (State.clockReaches t s).jacketWindow = s.jacketWindow := rfl
@[simp] theorem State.clockReaches_bays (t : Nat) : (State.clockReaches t s).bays = s.bays := rfl
@[simp] theorem State.clockReaches_governor (t : Nat) : (State.clockReaches t s).governor = s.governor := rfl
@[simp] theorem State.clockReaches_reports (t : Nat) : (State.clockReaches t s).reports = s.reports := rfl
@[simp] theorem State.clockReaches_stations (t : Nat) : (State.clockReaches t s).stations = s.stations := rfl
@[simp] theorem State.clockReaches_supervisor (t : Nat) : (State.clockReaches t s).supervisor = s.supervisor := rfl
@[simp] theorem State.clockReaches_notices (t : Nat) : (State.clockReaches t s).notices = s.notices := rfl
@[simp] theorem State.clockReaches_profile (t : Nat) : (State.clockReaches t s).profile = s.profile := rfl
@[simp] theorem State.clockReaches_profileStatus (t : Nat) : (State.clockReaches t s).profileStatus = s.profileStatus := rfl
@[simp] theorem State.clockReaches_store (t : Nat) : (State.clockReaches t s).store = s.store := rfl
@[simp] theorem State.clockReaches_draws (t : Nat) : (State.clockReaches t s).draws = s.draws := rfl
@[simp] theorem State.clockReaches_pending (t : Nat) : (State.clockReaches t s).pending = s.pending := rfl

@[simp] theorem State.raise_phase (k : Notice) : (State.raise k s).phase = s.phase := rfl
@[simp] theorem State.raise_clock (k : Notice) : (State.raise k s).clock = s.clock := rfl
@[simp] theorem State.raise_titles (k : Notice) : (State.raise k s).titles = s.titles := rfl
@[simp] theorem State.raise_missList (k : Notice) : (State.raise k s).missList = s.missList := rfl
@[simp] theorem State.raise_ranges (k : Notice) : (State.raise k s).ranges = s.ranges := rfl
@[simp] theorem State.raise_volumes (k : Notice) : (State.raise k s).volumes = s.volumes := rfl
@[simp] theorem State.raise_postPress (k : Notice) : (State.raise k s).postPress = s.postPress := rfl
@[simp] theorem State.raise_caseWindow (k : Notice) : (State.raise k s).caseWindow = s.caseWindow := rfl
@[simp] theorem State.raise_jacketWindow (k : Notice) : (State.raise k s).jacketWindow = s.jacketWindow := rfl
@[simp] theorem State.raise_bays (k : Notice) : (State.raise k s).bays = s.bays := rfl
@[simp] theorem State.raise_governor (k : Notice) : (State.raise k s).governor = s.governor := rfl
@[simp] theorem State.raise_reports (k : Notice) : (State.raise k s).reports = s.reports := rfl
@[simp] theorem State.raise_stations (k : Notice) : (State.raise k s).stations = s.stations := rfl
@[simp] theorem State.raise_supervisor (k : Notice) : (State.raise k s).supervisor = s.supervisor := rfl
@[simp] theorem State.raise_notices (k : Notice) : (State.raise k s).notices =
    { s.notices with flags := s.notices.flags ||| (s.notices.enables &&& noticeMask k) } := rfl
@[simp] theorem State.raise_profile (k : Notice) : (State.raise k s).profile = s.profile := rfl
@[simp] theorem State.raise_profileStatus (k : Notice) : (State.raise k s).profileStatus = s.profileStatus := rfl
@[simp] theorem State.raise_store (k : Notice) : (State.raise k s).store = s.store := rfl
@[simp] theorem State.raise_draws (k : Notice) : (State.raise k s).draws = s.draws := rfl
@[simp] theorem State.raise_pending (k : Notice) : (State.raise k s).pending = s.pending := rfl

@[simp] theorem State.startSlow_phase : (State.startSlow s).phase = s.phase := rfl
@[simp] theorem State.startSlow_clock : (State.startSlow s).clock = s.clock := rfl
@[simp] theorem State.startSlow_titles : (State.startSlow s).titles = s.titles := rfl
@[simp] theorem State.startSlow_missList : (State.startSlow s).missList = s.missList := rfl
@[simp] theorem State.startSlow_ranges : (State.startSlow s).ranges = s.ranges := rfl
@[simp] theorem State.startSlow_volumes : (State.startSlow s).volumes = s.volumes := rfl
@[simp] theorem State.startSlow_postPress : (State.startSlow s).postPress = s.postPress := rfl
@[simp] theorem State.startSlow_caseWindow : (State.startSlow s).caseWindow = s.caseWindow := rfl
@[simp] theorem State.startSlow_jacketWindow : (State.startSlow s).jacketWindow = s.jacketWindow := rfl
@[simp] theorem State.startSlow_bays : (State.startSlow s).bays = s.bays := rfl
@[simp] theorem State.startSlow_governor : (State.startSlow s).governor =
    { s.governor with recovery := .slow (s.clock + s.profile.slowPeriod * 1000) } := rfl
@[simp] theorem State.startSlow_reports : (State.startSlow s).reports = s.reports := rfl
@[simp] theorem State.startSlow_stations : (State.startSlow s).stations = s.stations := rfl
@[simp] theorem State.startSlow_supervisor : (State.startSlow s).supervisor = s.supervisor := rfl
@[simp] theorem State.startSlow_notices : (State.startSlow s).notices = s.notices := rfl
@[simp] theorem State.startSlow_profile : (State.startSlow s).profile = s.profile := rfl
@[simp] theorem State.startSlow_profileStatus : (State.startSlow s).profileStatus = s.profileStatus := rfl
@[simp] theorem State.startSlow_store : (State.startSlow s).store = s.store := rfl
@[simp] theorem State.startSlow_draws : (State.startSlow s).draws = s.draws := rfl
@[simp] theorem State.startSlow_pending : (State.startSlow s).pending = s.pending := rfl

@[simp] theorem State.startFast_phase : (State.startFast s).phase = s.phase := rfl
@[simp] theorem State.startFast_clock : (State.startFast s).clock = s.clock := rfl
@[simp] theorem State.startFast_titles : (State.startFast s).titles = s.titles := rfl
@[simp] theorem State.startFast_missList : (State.startFast s).missList = s.missList := rfl
@[simp] theorem State.startFast_ranges : (State.startFast s).ranges = s.ranges := rfl
@[simp] theorem State.startFast_volumes : (State.startFast s).volumes = s.volumes := rfl
@[simp] theorem State.startFast_postPress : (State.startFast s).postPress = s.postPress := rfl
@[simp] theorem State.startFast_caseWindow : (State.startFast s).caseWindow = s.caseWindow := rfl
@[simp] theorem State.startFast_jacketWindow : (State.startFast s).jacketWindow = s.jacketWindow := rfl
@[simp] theorem State.startFast_bays : (State.startFast s).bays = s.bays := rfl
@[simp] theorem State.startFast_governor : (State.startFast s).governor =
    { s.governor with recovery := .fast (s.clock + s.profile.fastPeriod * 1000) } := rfl
@[simp] theorem State.startFast_reports : (State.startFast s).reports = s.reports := rfl
@[simp] theorem State.startFast_stations : (State.startFast s).stations = s.stations := rfl
@[simp] theorem State.startFast_supervisor : (State.startFast s).supervisor = s.supervisor := rfl
@[simp] theorem State.startFast_notices : (State.startFast s).notices = s.notices := rfl
@[simp] theorem State.startFast_profile : (State.startFast s).profile = s.profile := rfl
@[simp] theorem State.startFast_profileStatus : (State.startFast s).profileStatus = s.profileStatus := rfl
@[simp] theorem State.startFast_store : (State.startFast s).store = s.store := rfl
@[simp] theorem State.startFast_draws : (State.startFast s).draws = s.draws := rfl
@[simp] theorem State.startFast_pending : (State.startFast s).pending = s.pending := rfl

@[simp] theorem State.recoveryIdle_phase : (State.recoveryIdle s).phase = s.phase := rfl
@[simp] theorem State.recoveryIdle_clock : (State.recoveryIdle s).clock = s.clock := rfl
@[simp] theorem State.recoveryIdle_titles : (State.recoveryIdle s).titles = s.titles := rfl
@[simp] theorem State.recoveryIdle_missList : (State.recoveryIdle s).missList = s.missList := rfl
@[simp] theorem State.recoveryIdle_ranges : (State.recoveryIdle s).ranges = s.ranges := rfl
@[simp] theorem State.recoveryIdle_volumes : (State.recoveryIdle s).volumes = s.volumes := rfl
@[simp] theorem State.recoveryIdle_postPress : (State.recoveryIdle s).postPress = s.postPress := rfl
@[simp] theorem State.recoveryIdle_caseWindow : (State.recoveryIdle s).caseWindow = s.caseWindow := rfl
@[simp] theorem State.recoveryIdle_jacketWindow : (State.recoveryIdle s).jacketWindow = s.jacketWindow := rfl
@[simp] theorem State.recoveryIdle_bays : (State.recoveryIdle s).bays = s.bays := rfl
@[simp] theorem State.recoveryIdle_governor : (State.recoveryIdle s).governor =
    { s.governor with recovery := .idle } := rfl
@[simp] theorem State.recoveryIdle_reports : (State.recoveryIdle s).reports = s.reports := rfl
@[simp] theorem State.recoveryIdle_stations : (State.recoveryIdle s).stations = s.stations := rfl
@[simp] theorem State.recoveryIdle_supervisor : (State.recoveryIdle s).supervisor = s.supervisor := rfl
@[simp] theorem State.recoveryIdle_notices : (State.recoveryIdle s).notices = s.notices := rfl
@[simp] theorem State.recoveryIdle_profile : (State.recoveryIdle s).profile = s.profile := rfl
@[simp] theorem State.recoveryIdle_profileStatus : (State.recoveryIdle s).profileStatus = s.profileStatus := rfl
@[simp] theorem State.recoveryIdle_store : (State.recoveryIdle s).store = s.store := rfl
@[simp] theorem State.recoveryIdle_draws : (State.recoveryIdle s).draws = s.draws := rfl
@[simp] theorem State.recoveryIdle_pending : (State.recoveryIdle s).pending = s.pending := rfl

@[simp] theorem State.restartIdle_phase : (State.restartIdle s).phase = s.phase := rfl
@[simp] theorem State.restartIdle_clock : (State.restartIdle s).clock = s.clock := rfl
@[simp] theorem State.restartIdle_titles : (State.restartIdle s).titles = s.titles := rfl
@[simp] theorem State.restartIdle_missList : (State.restartIdle s).missList = s.missList := rfl
@[simp] theorem State.restartIdle_ranges : (State.restartIdle s).ranges = s.ranges := rfl
@[simp] theorem State.restartIdle_volumes : (State.restartIdle s).volumes = s.volumes := rfl
@[simp] theorem State.restartIdle_postPress : (State.restartIdle s).postPress = s.postPress := rfl
@[simp] theorem State.restartIdle_caseWindow : (State.restartIdle s).caseWindow = s.caseWindow := rfl
@[simp] theorem State.restartIdle_jacketWindow : (State.restartIdle s).jacketWindow = s.jacketWindow := rfl
@[simp] theorem State.restartIdle_bays : (State.restartIdle s).bays = s.bays := rfl
@[simp] theorem State.restartIdle_governor : (State.restartIdle s).governor =
    { s.governor with stepDown := .run, idleDue := some (s.clock + s.profile.idle1 * 1000) } := rfl
@[simp] theorem State.restartIdle_reports : (State.restartIdle s).reports = s.reports := rfl
@[simp] theorem State.restartIdle_stations : (State.restartIdle s).stations = s.stations := rfl
@[simp] theorem State.restartIdle_supervisor : (State.restartIdle s).supervisor = s.supervisor := rfl
@[simp] theorem State.restartIdle_notices : (State.restartIdle s).notices = s.notices := rfl
@[simp] theorem State.restartIdle_profile : (State.restartIdle s).profile = s.profile := rfl
@[simp] theorem State.restartIdle_profileStatus : (State.restartIdle s).profileStatus = s.profileStatus := rfl
@[simp] theorem State.restartIdle_store : (State.restartIdle s).store = s.store := rfl
@[simp] theorem State.restartIdle_draws : (State.restartIdle s).draws = s.draws := rfl
@[simp] theorem State.restartIdle_pending : (State.restartIdle s).pending = s.pending := rfl

@[simp] theorem State.updTitle_phase (c : Nat) (f : Title → Title) : (State.updTitle c f s).phase = s.phase := rfl
@[simp] theorem State.updTitle_clock (c : Nat) (f : Title → Title) : (State.updTitle c f s).clock = s.clock := rfl
@[simp] theorem State.updTitle_titles (c : Nat) (f : Title → Title) : (State.updTitle c f s).titles =
    s.titles.map fun t => if t.code = c then f t else t := rfl
@[simp] theorem State.updTitle_missList (c : Nat) (f : Title → Title) : (State.updTitle c f s).missList = s.missList := rfl
@[simp] theorem State.updTitle_ranges (c : Nat) (f : Title → Title) : (State.updTitle c f s).ranges = s.ranges := rfl
@[simp] theorem State.updTitle_volumes (c : Nat) (f : Title → Title) : (State.updTitle c f s).volumes = s.volumes := rfl
@[simp] theorem State.updTitle_postPress (c : Nat) (f : Title → Title) : (State.updTitle c f s).postPress = s.postPress := rfl
@[simp] theorem State.updTitle_caseWindow (c : Nat) (f : Title → Title) : (State.updTitle c f s).caseWindow = s.caseWindow := rfl
@[simp] theorem State.updTitle_jacketWindow (c : Nat) (f : Title → Title) : (State.updTitle c f s).jacketWindow = s.jacketWindow := rfl
@[simp] theorem State.updTitle_bays (c : Nat) (f : Title → Title) : (State.updTitle c f s).bays = s.bays := rfl
@[simp] theorem State.updTitle_governor (c : Nat) (f : Title → Title) : (State.updTitle c f s).governor = s.governor := rfl
@[simp] theorem State.updTitle_reports (c : Nat) (f : Title → Title) : (State.updTitle c f s).reports = s.reports := rfl
@[simp] theorem State.updTitle_stations (c : Nat) (f : Title → Title) : (State.updTitle c f s).stations = s.stations := rfl
@[simp] theorem State.updTitle_supervisor (c : Nat) (f : Title → Title) : (State.updTitle c f s).supervisor = s.supervisor := rfl
@[simp] theorem State.updTitle_notices (c : Nat) (f : Title → Title) : (State.updTitle c f s).notices = s.notices := rfl
@[simp] theorem State.updTitle_profile (c : Nat) (f : Title → Title) : (State.updTitle c f s).profile = s.profile := rfl
@[simp] theorem State.updTitle_profileStatus (c : Nat) (f : Title → Title) : (State.updTitle c f s).profileStatus = s.profileStatus := rfl
@[simp] theorem State.updTitle_store (c : Nat) (f : Title → Title) : (State.updTitle c f s).store = s.store := rfl
@[simp] theorem State.updTitle_draws (c : Nat) (f : Title → Title) : (State.updTitle c f s).draws = s.draws := rfl
@[simp] theorem State.updTitle_pending (c : Nat) (f : Title → Title) : (State.updTitle c f s).pending = s.pending := rfl

@[simp] theorem State.touchTitle_phase (c : Nat) : (State.touchTitle c s).phase = s.phase := rfl
@[simp] theorem State.touchTitle_clock (c : Nat) : (State.touchTitle c s).clock = s.clock := rfl
@[simp] theorem State.touchTitle_titles (c : Nat) : (State.touchTitle c s).titles =
    s.titles.filter (fun t => t.code == c) ++ s.titles.filter fun t => t.code != c := rfl
@[simp] theorem State.touchTitle_missList (c : Nat) : (State.touchTitle c s).missList = s.missList := rfl
@[simp] theorem State.touchTitle_ranges (c : Nat) : (State.touchTitle c s).ranges = s.ranges := rfl
@[simp] theorem State.touchTitle_volumes (c : Nat) : (State.touchTitle c s).volumes = s.volumes := rfl
@[simp] theorem State.touchTitle_postPress (c : Nat) : (State.touchTitle c s).postPress = s.postPress := rfl
@[simp] theorem State.touchTitle_caseWindow (c : Nat) : (State.touchTitle c s).caseWindow = s.caseWindow := rfl
@[simp] theorem State.touchTitle_jacketWindow (c : Nat) : (State.touchTitle c s).jacketWindow = s.jacketWindow := rfl
@[simp] theorem State.touchTitle_bays (c : Nat) : (State.touchTitle c s).bays = s.bays := rfl
@[simp] theorem State.touchTitle_governor (c : Nat) : (State.touchTitle c s).governor = s.governor := rfl
@[simp] theorem State.touchTitle_reports (c : Nat) : (State.touchTitle c s).reports = s.reports := rfl
@[simp] theorem State.touchTitle_stations (c : Nat) : (State.touchTitle c s).stations = s.stations := rfl
@[simp] theorem State.touchTitle_supervisor (c : Nat) : (State.touchTitle c s).supervisor = s.supervisor := rfl
@[simp] theorem State.touchTitle_notices (c : Nat) : (State.touchTitle c s).notices = s.notices := rfl
@[simp] theorem State.touchTitle_profile (c : Nat) : (State.touchTitle c s).profile = s.profile := rfl
@[simp] theorem State.touchTitle_profileStatus (c : Nat) : (State.touchTitle c s).profileStatus = s.profileStatus := rfl
@[simp] theorem State.touchTitle_store (c : Nat) : (State.touchTitle c s).store = s.store := rfl
@[simp] theorem State.touchTitle_draws (c : Nat) : (State.touchTitle c s).draws = s.draws := rfl
@[simp] theorem State.touchTitle_pending (c : Nat) : (State.touchTitle c s).pending = s.pending := rfl

@[simp] theorem State.removeTitle_phase (c : Nat) : (State.removeTitle c s).phase = s.phase := rfl
@[simp] theorem State.removeTitle_clock (c : Nat) : (State.removeTitle c s).clock = s.clock := rfl
@[simp] theorem State.removeTitle_titles (c : Nat) : (State.removeTitle c s).titles =
    s.titles.filter fun t => t.code != c := rfl
@[simp] theorem State.removeTitle_missList (c : Nat) : (State.removeTitle c s).missList = s.missList := rfl
@[simp] theorem State.removeTitle_ranges (c : Nat) : (State.removeTitle c s).ranges = s.ranges := rfl
@[simp] theorem State.removeTitle_volumes (c : Nat) : (State.removeTitle c s).volumes = s.volumes := rfl
@[simp] theorem State.removeTitle_postPress (c : Nat) : (State.removeTitle c s).postPress = s.postPress := rfl
@[simp] theorem State.removeTitle_caseWindow (c : Nat) : (State.removeTitle c s).caseWindow = s.caseWindow := rfl
@[simp] theorem State.removeTitle_jacketWindow (c : Nat) : (State.removeTitle c s).jacketWindow = s.jacketWindow := rfl
@[simp] theorem State.removeTitle_bays (c : Nat) : (State.removeTitle c s).bays = s.bays := rfl
@[simp] theorem State.removeTitle_governor (c : Nat) : (State.removeTitle c s).governor = s.governor := rfl
@[simp] theorem State.removeTitle_reports (c : Nat) : (State.removeTitle c s).reports = s.reports := rfl
@[simp] theorem State.removeTitle_stations (c : Nat) : (State.removeTitle c s).stations = s.stations := rfl
@[simp] theorem State.removeTitle_supervisor (c : Nat) : (State.removeTitle c s).supervisor = s.supervisor := rfl
@[simp] theorem State.removeTitle_notices (c : Nat) : (State.removeTitle c s).notices = s.notices := rfl
@[simp] theorem State.removeTitle_profile (c : Nat) : (State.removeTitle c s).profile = s.profile := rfl
@[simp] theorem State.removeTitle_profileStatus (c : Nat) : (State.removeTitle c s).profileStatus = s.profileStatus := rfl
@[simp] theorem State.removeTitle_store (c : Nat) : (State.removeTitle c s).store = s.store := rfl
@[simp] theorem State.removeTitle_draws (c : Nat) : (State.removeTitle c s).draws = s.draws := rfl
@[simp] theorem State.removeTitle_pending (c : Nat) : (State.removeTitle c s).pending = s.pending := rfl

@[simp] theorem State.dropMiss_phase (c : Nat) : (State.dropMiss c s).phase = s.phase := rfl
@[simp] theorem State.dropMiss_clock (c : Nat) : (State.dropMiss c s).clock = s.clock := rfl
@[simp] theorem State.dropMiss_titles (c : Nat) : (State.dropMiss c s).titles = s.titles := rfl
@[simp] theorem State.dropMiss_missList (c : Nat) : (State.dropMiss c s).missList =
    s.missList.filter fun d => d != c := rfl
@[simp] theorem State.dropMiss_ranges (c : Nat) : (State.dropMiss c s).ranges = s.ranges := rfl
@[simp] theorem State.dropMiss_volumes (c : Nat) : (State.dropMiss c s).volumes = s.volumes := rfl
@[simp] theorem State.dropMiss_postPress (c : Nat) : (State.dropMiss c s).postPress = s.postPress := rfl
@[simp] theorem State.dropMiss_caseWindow (c : Nat) : (State.dropMiss c s).caseWindow = s.caseWindow := rfl
@[simp] theorem State.dropMiss_jacketWindow (c : Nat) : (State.dropMiss c s).jacketWindow = s.jacketWindow := rfl
@[simp] theorem State.dropMiss_bays (c : Nat) : (State.dropMiss c s).bays = s.bays := rfl
@[simp] theorem State.dropMiss_governor (c : Nat) : (State.dropMiss c s).governor = s.governor := rfl
@[simp] theorem State.dropMiss_reports (c : Nat) : (State.dropMiss c s).reports = s.reports := rfl
@[simp] theorem State.dropMiss_stations (c : Nat) : (State.dropMiss c s).stations = s.stations := rfl
@[simp] theorem State.dropMiss_supervisor (c : Nat) : (State.dropMiss c s).supervisor = s.supervisor := rfl
@[simp] theorem State.dropMiss_notices (c : Nat) : (State.dropMiss c s).notices = s.notices := rfl
@[simp] theorem State.dropMiss_profile (c : Nat) : (State.dropMiss c s).profile = s.profile := rfl
@[simp] theorem State.dropMiss_profileStatus (c : Nat) : (State.dropMiss c s).profileStatus = s.profileStatus := rfl
@[simp] theorem State.dropMiss_store (c : Nat) : (State.dropMiss c s).store = s.store := rfl
@[simp] theorem State.dropMiss_draws (c : Nat) : (State.dropMiss c s).draws = s.draws := rfl
@[simp] theorem State.dropMiss_pending (c : Nat) : (State.dropMiss c s).pending = s.pending := rfl

@[simp] theorem State.setRange_phase (i : Nat) (e : RangeEntry) : (State.setRange i e s).phase = s.phase := rfl
@[simp] theorem State.setRange_clock (i : Nat) (e : RangeEntry) : (State.setRange i e s).clock = s.clock := rfl
@[simp] theorem State.setRange_titles (i : Nat) (e : RangeEntry) : (State.setRange i e s).titles = s.titles := rfl
@[simp] theorem State.setRange_missList (i : Nat) (e : RangeEntry) : (State.setRange i e s).missList = s.missList := rfl
@[simp] theorem State.setRange_ranges (i : Nat) (e : RangeEntry) : (State.setRange i e s).ranges =
    s.ranges.set i e := rfl
@[simp] theorem State.setRange_volumes (i : Nat) (e : RangeEntry) : (State.setRange i e s).volumes = s.volumes := rfl
@[simp] theorem State.setRange_postPress (i : Nat) (e : RangeEntry) : (State.setRange i e s).postPress = s.postPress := rfl
@[simp] theorem State.setRange_caseWindow (i : Nat) (e : RangeEntry) : (State.setRange i e s).caseWindow = s.caseWindow := rfl
@[simp] theorem State.setRange_jacketWindow (i : Nat) (e : RangeEntry) : (State.setRange i e s).jacketWindow = s.jacketWindow := rfl
@[simp] theorem State.setRange_bays (i : Nat) (e : RangeEntry) : (State.setRange i e s).bays = s.bays := rfl
@[simp] theorem State.setRange_governor (i : Nat) (e : RangeEntry) : (State.setRange i e s).governor = s.governor := rfl
@[simp] theorem State.setRange_reports (i : Nat) (e : RangeEntry) : (State.setRange i e s).reports = s.reports := rfl
@[simp] theorem State.setRange_stations (i : Nat) (e : RangeEntry) : (State.setRange i e s).stations = s.stations := rfl
@[simp] theorem State.setRange_supervisor (i : Nat) (e : RangeEntry) : (State.setRange i e s).supervisor = s.supervisor := rfl
@[simp] theorem State.setRange_notices (i : Nat) (e : RangeEntry) : (State.setRange i e s).notices = s.notices := rfl
@[simp] theorem State.setRange_profile (i : Nat) (e : RangeEntry) : (State.setRange i e s).profile = s.profile := rfl
@[simp] theorem State.setRange_profileStatus (i : Nat) (e : RangeEntry) : (State.setRange i e s).profileStatus = s.profileStatus := rfl
@[simp] theorem State.setRange_store (i : Nat) (e : RangeEntry) : (State.setRange i e s).store = s.store := rfl
@[simp] theorem State.setRange_draws (i : Nat) (e : RangeEntry) : (State.setRange i e s).draws = s.draws := rfl
@[simp] theorem State.setRange_pending (i : Nat) (e : RangeEntry) : (State.setRange i e s).pending = s.pending := rfl

@[simp] theorem State.updVolume_phase (n : Nat) (f : Volume → Volume) : (State.updVolume n f s).phase = s.phase := rfl
@[simp] theorem State.updVolume_clock (n : Nat) (f : Volume → Volume) : (State.updVolume n f s).clock = s.clock := rfl
@[simp] theorem State.updVolume_titles (n : Nat) (f : Volume → Volume) : (State.updVolume n f s).titles = s.titles := rfl
@[simp] theorem State.updVolume_missList (n : Nat) (f : Volume → Volume) : (State.updVolume n f s).missList = s.missList := rfl
@[simp] theorem State.updVolume_ranges (n : Nat) (f : Volume → Volume) : (State.updVolume n f s).ranges = s.ranges := rfl
@[simp] theorem State.updVolume_volumes (n : Nat) (f : Volume → Volume) : (State.updVolume n f s).volumes =
    s.volumes.map fun v => if v.number = n then f v else v := rfl
@[simp] theorem State.updVolume_postPress (n : Nat) (f : Volume → Volume) : (State.updVolume n f s).postPress = s.postPress := rfl
@[simp] theorem State.updVolume_caseWindow (n : Nat) (f : Volume → Volume) : (State.updVolume n f s).caseWindow = s.caseWindow := rfl
@[simp] theorem State.updVolume_jacketWindow (n : Nat) (f : Volume → Volume) : (State.updVolume n f s).jacketWindow = s.jacketWindow := rfl
@[simp] theorem State.updVolume_bays (n : Nat) (f : Volume → Volume) : (State.updVolume n f s).bays = s.bays := rfl
@[simp] theorem State.updVolume_governor (n : Nat) (f : Volume → Volume) : (State.updVolume n f s).governor = s.governor := rfl
@[simp] theorem State.updVolume_reports (n : Nat) (f : Volume → Volume) : (State.updVolume n f s).reports = s.reports := rfl
@[simp] theorem State.updVolume_stations (n : Nat) (f : Volume → Volume) : (State.updVolume n f s).stations = s.stations := rfl
@[simp] theorem State.updVolume_supervisor (n : Nat) (f : Volume → Volume) : (State.updVolume n f s).supervisor = s.supervisor := rfl
@[simp] theorem State.updVolume_notices (n : Nat) (f : Volume → Volume) : (State.updVolume n f s).notices = s.notices := rfl
@[simp] theorem State.updVolume_profile (n : Nat) (f : Volume → Volume) : (State.updVolume n f s).profile = s.profile := rfl
@[simp] theorem State.updVolume_profileStatus (n : Nat) (f : Volume → Volume) : (State.updVolume n f s).profileStatus = s.profileStatus := rfl
@[simp] theorem State.updVolume_store (n : Nat) (f : Volume → Volume) : (State.updVolume n f s).store = s.store := rfl
@[simp] theorem State.updVolume_draws (n : Nat) (f : Volume → Volume) : (State.updVolume n f s).draws = s.draws := rfl
@[simp] theorem State.updVolume_pending (n : Nat) (f : Volume → Volume) : (State.updVolume n f s).pending = s.pending := rfl

@[simp] theorem State.dropVolume_phase (n : Nat) : (State.dropVolume n s).phase = s.phase := rfl
@[simp] theorem State.dropVolume_clock (n : Nat) : (State.dropVolume n s).clock = s.clock := rfl
@[simp] theorem State.dropVolume_titles (n : Nat) : (State.dropVolume n s).titles = s.titles := rfl
@[simp] theorem State.dropVolume_missList (n : Nat) : (State.dropVolume n s).missList = s.missList := rfl
@[simp] theorem State.dropVolume_ranges (n : Nat) : (State.dropVolume n s).ranges = s.ranges := rfl
@[simp] theorem State.dropVolume_volumes (n : Nat) : (State.dropVolume n s).volumes =
    s.volumes.filter fun v => v.number != n := rfl
@[simp] theorem State.dropVolume_postPress (n : Nat) : (State.dropVolume n s).postPress =
    s.postPress.filter fun m => m != n := rfl
@[simp] theorem State.dropVolume_caseWindow (n : Nat) : (State.dropVolume n s).caseWindow = s.caseWindow := rfl
@[simp] theorem State.dropVolume_jacketWindow (n : Nat) : (State.dropVolume n s).jacketWindow = s.jacketWindow := rfl
@[simp] theorem State.dropVolume_bays (n : Nat) : (State.dropVolume n s).bays = s.bays := rfl
@[simp] theorem State.dropVolume_governor (n : Nat) : (State.dropVolume n s).governor = s.governor := rfl
@[simp] theorem State.dropVolume_reports (n : Nat) : (State.dropVolume n s).reports = s.reports := rfl
@[simp] theorem State.dropVolume_stations (n : Nat) : (State.dropVolume n s).stations = s.stations := rfl
@[simp] theorem State.dropVolume_supervisor (n : Nat) : (State.dropVolume n s).supervisor = s.supervisor := rfl
@[simp] theorem State.dropVolume_notices (n : Nat) : (State.dropVolume n s).notices = s.notices := rfl
@[simp] theorem State.dropVolume_profile (n : Nat) : (State.dropVolume n s).profile = s.profile := rfl
@[simp] theorem State.dropVolume_profileStatus (n : Nat) : (State.dropVolume n s).profileStatus = s.profileStatus := rfl
@[simp] theorem State.dropVolume_store (n : Nat) : (State.dropVolume n s).store = s.store := rfl
@[simp] theorem State.dropVolume_draws (n : Nat) : (State.dropVolume n s).draws = s.draws := rfl
@[simp] theorem State.dropVolume_pending (n : Nat) : (State.dropVolume n s).pending = s.pending := rfl

@[simp] theorem State.placePassed_phase (n : Nat) : (State.placePassed n s).phase = s.phase := rfl
@[simp] theorem State.placePassed_clock (n : Nat) : (State.placePassed n s).clock = s.clock := rfl
@[simp] theorem State.placePassed_titles (n : Nat) : (State.placePassed n s).titles = s.titles := rfl
@[simp] theorem State.placePassed_missList (n : Nat) : (State.placePassed n s).missList = s.missList := rfl
@[simp] theorem State.placePassed_ranges (n : Nat) : (State.placePassed n s).ranges = s.ranges := rfl
@[simp] theorem State.placePassed_volumes (n : Nat) : (State.placePassed n s).volumes = s.volumes := rfl
@[simp] theorem State.placePassed_caseWindow (n : Nat) : (State.placePassed n s).caseWindow = s.caseWindow := rfl
@[simp] theorem State.placePassed_jacketWindow (n : Nat) : (State.placePassed n s).jacketWindow = s.jacketWindow := rfl
@[simp] theorem State.placePassed_bays (n : Nat) : (State.placePassed n s).bays = s.bays := rfl
@[simp] theorem State.placePassed_governor (n : Nat) : (State.placePassed n s).governor = s.governor := rfl
@[simp] theorem State.placePassed_reports (n : Nat) : (State.placePassed n s).reports = s.reports := rfl
@[simp] theorem State.placePassed_stations (n : Nat) : (State.placePassed n s).stations = s.stations := rfl
@[simp] theorem State.placePassed_supervisor (n : Nat) : (State.placePassed n s).supervisor = s.supervisor := rfl
@[simp] theorem State.placePassed_notices (n : Nat) : (State.placePassed n s).notices = s.notices := rfl
@[simp] theorem State.placePassed_profile (n : Nat) : (State.placePassed n s).profile = s.profile := rfl
@[simp] theorem State.placePassed_profileStatus (n : Nat) : (State.placePassed n s).profileStatus = s.profileStatus := rfl
@[simp] theorem State.placePassed_store (n : Nat) : (State.placePassed n s).store = s.store := rfl
@[simp] theorem State.placePassed_draws (n : Nat) : (State.placePassed n s).draws = s.draws := rfl
@[simp] theorem State.placePassed_pending (n : Nat) : (State.placePassed n s).pending = s.pending := rfl

@[simp] theorem State.setBay_phase (b : Nat) (r : Bay) : (State.setBay b r s).phase = s.phase := rfl
@[simp] theorem State.setBay_clock (b : Nat) (r : Bay) : (State.setBay b r s).clock = s.clock := rfl
@[simp] theorem State.setBay_titles (b : Nat) (r : Bay) : (State.setBay b r s).titles = s.titles := rfl
@[simp] theorem State.setBay_missList (b : Nat) (r : Bay) : (State.setBay b r s).missList = s.missList := rfl
@[simp] theorem State.setBay_ranges (b : Nat) (r : Bay) : (State.setBay b r s).ranges = s.ranges := rfl
@[simp] theorem State.setBay_volumes (b : Nat) (r : Bay) : (State.setBay b r s).volumes = s.volumes := rfl
@[simp] theorem State.setBay_postPress (b : Nat) (r : Bay) : (State.setBay b r s).postPress = s.postPress := rfl
@[simp] theorem State.setBay_caseWindow (b : Nat) (r : Bay) : (State.setBay b r s).caseWindow = s.caseWindow := rfl
@[simp] theorem State.setBay_jacketWindow (b : Nat) (r : Bay) : (State.setBay b r s).jacketWindow = s.jacketWindow := rfl
@[simp] theorem State.setBay_bays (b : Nat) (r : Bay) : (State.setBay b r s).bays = s.bays.set b r := rfl
@[simp] theorem State.setBay_governor (b : Nat) (r : Bay) : (State.setBay b r s).governor = s.governor := rfl
@[simp] theorem State.setBay_reports (b : Nat) (r : Bay) : (State.setBay b r s).reports = s.reports := rfl
@[simp] theorem State.setBay_stations (b : Nat) (r : Bay) : (State.setBay b r s).stations = s.stations := rfl
@[simp] theorem State.setBay_supervisor (b : Nat) (r : Bay) : (State.setBay b r s).supervisor = s.supervisor := rfl
@[simp] theorem State.setBay_notices (b : Nat) (r : Bay) : (State.setBay b r s).notices = s.notices := rfl
@[simp] theorem State.setBay_profile (b : Nat) (r : Bay) : (State.setBay b r s).profile = s.profile := rfl
@[simp] theorem State.setBay_profileStatus (b : Nat) (r : Bay) : (State.setBay b r s).profileStatus = s.profileStatus := rfl
@[simp] theorem State.setBay_store (b : Nat) (r : Bay) : (State.setBay b r s).store = s.store := rfl
@[simp] theorem State.setBay_draws (b : Nat) (r : Bay) : (State.setBay b r s).draws = s.draws := rfl
@[simp] theorem State.setBay_pending (b : Nat) (r : Bay) : (State.setBay b r s).pending = s.pending := rfl

@[simp] theorem State.updStation_phase (l : Line) (f : StationLine → StationLine) : (State.updStation l f s).phase = s.phase := rfl
@[simp] theorem State.updStation_clock (l : Line) (f : StationLine → StationLine) : (State.updStation l f s).clock = s.clock := rfl
@[simp] theorem State.updStation_titles (l : Line) (f : StationLine → StationLine) : (State.updStation l f s).titles = s.titles := rfl
@[simp] theorem State.updStation_missList (l : Line) (f : StationLine → StationLine) : (State.updStation l f s).missList = s.missList := rfl
@[simp] theorem State.updStation_ranges (l : Line) (f : StationLine → StationLine) : (State.updStation l f s).ranges = s.ranges := rfl
@[simp] theorem State.updStation_volumes (l : Line) (f : StationLine → StationLine) : (State.updStation l f s).volumes = s.volumes := rfl
@[simp] theorem State.updStation_postPress (l : Line) (f : StationLine → StationLine) : (State.updStation l f s).postPress = s.postPress := rfl
@[simp] theorem State.updStation_caseWindow (l : Line) (f : StationLine → StationLine) : (State.updStation l f s).caseWindow = s.caseWindow := rfl
@[simp] theorem State.updStation_jacketWindow (l : Line) (f : StationLine → StationLine) : (State.updStation l f s).jacketWindow = s.jacketWindow := rfl
@[simp] theorem State.updStation_bays (l : Line) (f : StationLine → StationLine) : (State.updStation l f s).bays = s.bays := rfl
@[simp] theorem State.updStation_governor (l : Line) (f : StationLine → StationLine) : (State.updStation l f s).governor = s.governor := rfl
@[simp] theorem State.updStation_reports (l : Line) (f : StationLine → StationLine) : (State.updStation l f s).reports = s.reports := rfl
@[simp] theorem State.updStation_stations (l : Line) (f : StationLine → StationLine) : (State.updStation l f s).stations =
    s.stations.modify l.val f := rfl
@[simp] theorem State.updStation_supervisor (l : Line) (f : StationLine → StationLine) : (State.updStation l f s).supervisor = s.supervisor := rfl
@[simp] theorem State.updStation_notices (l : Line) (f : StationLine → StationLine) : (State.updStation l f s).notices = s.notices := rfl
@[simp] theorem State.updStation_profile (l : Line) (f : StationLine → StationLine) : (State.updStation l f s).profile = s.profile := rfl
@[simp] theorem State.updStation_profileStatus (l : Line) (f : StationLine → StationLine) : (State.updStation l f s).profileStatus = s.profileStatus := rfl
@[simp] theorem State.updStation_store (l : Line) (f : StationLine → StationLine) : (State.updStation l f s).store = s.store := rfl
@[simp] theorem State.updStation_draws (l : Line) (f : StationLine → StationLine) : (State.updStation l f s).draws = s.draws := rfl
@[simp] theorem State.updStation_pending (l : Line) (f : StationLine → StationLine) : (State.updStation l f s).pending = s.pending := rfl

@[simp] theorem State.setSlot_phase (l : Line) (x : Slot) : (State.setSlot l x s).phase = s.phase := rfl
@[simp] theorem State.setSlot_clock (l : Line) (x : Slot) : (State.setSlot l x s).clock = s.clock := rfl
@[simp] theorem State.setSlot_titles (l : Line) (x : Slot) : (State.setSlot l x s).titles = s.titles := rfl
@[simp] theorem State.setSlot_missList (l : Line) (x : Slot) : (State.setSlot l x s).missList = s.missList := rfl
@[simp] theorem State.setSlot_ranges (l : Line) (x : Slot) : (State.setSlot l x s).ranges = s.ranges := rfl
@[simp] theorem State.setSlot_volumes (l : Line) (x : Slot) : (State.setSlot l x s).volumes = s.volumes := rfl
@[simp] theorem State.setSlot_postPress (l : Line) (x : Slot) : (State.setSlot l x s).postPress = s.postPress := rfl
@[simp] theorem State.setSlot_caseWindow (l : Line) (x : Slot) : (State.setSlot l x s).caseWindow = s.caseWindow := rfl
@[simp] theorem State.setSlot_jacketWindow (l : Line) (x : Slot) : (State.setSlot l x s).jacketWindow = s.jacketWindow := rfl
@[simp] theorem State.setSlot_bays (l : Line) (x : Slot) : (State.setSlot l x s).bays = s.bays := rfl
@[simp] theorem State.setSlot_governor (l : Line) (x : Slot) : (State.setSlot l x s).governor = s.governor := rfl
@[simp] theorem State.setSlot_reports (l : Line) (x : Slot) : (State.setSlot l x s).reports = s.reports := rfl
@[simp] theorem State.setSlot_stations (l : Line) (x : Slot) : (State.setSlot l x s).stations =
    s.stations.modify l.val fun r => { r with slot := x } := rfl
@[simp] theorem State.setSlot_supervisor (l : Line) (x : Slot) : (State.setSlot l x s).supervisor = s.supervisor := rfl
@[simp] theorem State.setSlot_notices (l : Line) (x : Slot) : (State.setSlot l x s).notices = s.notices := rfl
@[simp] theorem State.setSlot_profile (l : Line) (x : Slot) : (State.setSlot l x s).profile = s.profile := rfl
@[simp] theorem State.setSlot_profileStatus (l : Line) (x : Slot) : (State.setSlot l x s).profileStatus = s.profileStatus := rfl
@[simp] theorem State.setSlot_store (l : Line) (x : Slot) : (State.setSlot l x s).store = s.store := rfl
@[simp] theorem State.setSlot_draws (l : Line) (x : Slot) : (State.setSlot l x s).draws = s.draws := rfl
@[simp] theorem State.setSlot_pending (l : Line) (x : Slot) : (State.setSlot l x s).pending = s.pending := rfl

@[simp] theorem State.pushAnswer_phase (l : Line) (a : Answer) (q : Bool) : (State.pushAnswer l a q s).phase = s.phase := rfl
@[simp] theorem State.pushAnswer_clock (l : Line) (a : Answer) (q : Bool) : (State.pushAnswer l a q s).clock = s.clock := rfl
@[simp] theorem State.pushAnswer_titles (l : Line) (a : Answer) (q : Bool) : (State.pushAnswer l a q s).titles = s.titles := rfl
@[simp] theorem State.pushAnswer_missList (l : Line) (a : Answer) (q : Bool) : (State.pushAnswer l a q s).missList = s.missList := rfl
@[simp] theorem State.pushAnswer_ranges (l : Line) (a : Answer) (q : Bool) : (State.pushAnswer l a q s).ranges = s.ranges := rfl
@[simp] theorem State.pushAnswer_volumes (l : Line) (a : Answer) (q : Bool) : (State.pushAnswer l a q s).volumes = s.volumes := rfl
@[simp] theorem State.pushAnswer_postPress (l : Line) (a : Answer) (q : Bool) : (State.pushAnswer l a q s).postPress = s.postPress := rfl
@[simp] theorem State.pushAnswer_caseWindow (l : Line) (a : Answer) (q : Bool) : (State.pushAnswer l a q s).caseWindow = s.caseWindow := rfl
@[simp] theorem State.pushAnswer_jacketWindow (l : Line) (a : Answer) (q : Bool) : (State.pushAnswer l a q s).jacketWindow = s.jacketWindow := rfl
@[simp] theorem State.pushAnswer_bays (l : Line) (a : Answer) (q : Bool) : (State.pushAnswer l a q s).bays = s.bays := rfl
@[simp] theorem State.pushAnswer_governor (l : Line) (a : Answer) (q : Bool) : (State.pushAnswer l a q s).governor = s.governor := rfl
@[simp] theorem State.pushAnswer_reports (l : Line) (a : Answer) (q : Bool) : (State.pushAnswer l a q s).reports = s.reports := rfl
@[simp] theorem State.pushAnswer_stations (l : Line) (a : Answer) (q : Bool) : (State.pushAnswer l a q s).stations =
    s.stations.modify l.val fun r => { r with output := r.output ++ [⟨a, q⟩] } := rfl
@[simp] theorem State.pushAnswer_supervisor (l : Line) (a : Answer) (q : Bool) : (State.pushAnswer l a q s).supervisor = s.supervisor := rfl
@[simp] theorem State.pushAnswer_notices (l : Line) (a : Answer) (q : Bool) : (State.pushAnswer l a q s).notices = s.notices := rfl
@[simp] theorem State.pushAnswer_profile (l : Line) (a : Answer) (q : Bool) : (State.pushAnswer l a q s).profile = s.profile := rfl
@[simp] theorem State.pushAnswer_profileStatus (l : Line) (a : Answer) (q : Bool) : (State.pushAnswer l a q s).profileStatus = s.profileStatus := rfl
@[simp] theorem State.pushAnswer_store (l : Line) (a : Answer) (q : Bool) : (State.pushAnswer l a q s).store = s.store := rfl
@[simp] theorem State.pushAnswer_draws (l : Line) (a : Answer) (q : Bool) : (State.pushAnswer l a q s).draws = s.draws := rfl
@[simp] theorem State.pushAnswer_pending (l : Line) (a : Answer) (q : Bool) : (State.pushAnswer l a q s).pending = s.pending := rfl

@[simp] theorem State.answerSlot_phase (l : Line) (a : Answer) : (State.answerSlot l a s).phase = s.phase := rfl
@[simp] theorem State.answerSlot_clock (l : Line) (a : Answer) : (State.answerSlot l a s).clock = s.clock := rfl
@[simp] theorem State.answerSlot_titles (l : Line) (a : Answer) : (State.answerSlot l a s).titles = s.titles := rfl
@[simp] theorem State.answerSlot_missList (l : Line) (a : Answer) : (State.answerSlot l a s).missList = s.missList := rfl
@[simp] theorem State.answerSlot_ranges (l : Line) (a : Answer) : (State.answerSlot l a s).ranges = s.ranges := rfl
@[simp] theorem State.answerSlot_volumes (l : Line) (a : Answer) : (State.answerSlot l a s).volumes = s.volumes := rfl
@[simp] theorem State.answerSlot_postPress (l : Line) (a : Answer) : (State.answerSlot l a s).postPress = s.postPress := rfl
@[simp] theorem State.answerSlot_caseWindow (l : Line) (a : Answer) : (State.answerSlot l a s).caseWindow = s.caseWindow := rfl
@[simp] theorem State.answerSlot_jacketWindow (l : Line) (a : Answer) : (State.answerSlot l a s).jacketWindow = s.jacketWindow := rfl
@[simp] theorem State.answerSlot_bays (l : Line) (a : Answer) : (State.answerSlot l a s).bays = s.bays := rfl
@[simp] theorem State.answerSlot_governor (l : Line) (a : Answer) : (State.answerSlot l a s).governor = s.governor := rfl
@[simp] theorem State.answerSlot_reports (l : Line) (a : Answer) : (State.answerSlot l a s).reports = s.reports := rfl
@[simp] theorem State.answerSlot_stations (l : Line) (a : Answer) : (State.answerSlot l a s).stations =
    (s.stations.modify l.val fun r => { r with output := r.output ++ [⟨a, true⟩] }).modify l.val
      fun r => { r with slot := .answered } := rfl
@[simp] theorem State.answerSlot_supervisor (l : Line) (a : Answer) : (State.answerSlot l a s).supervisor = s.supervisor := rfl
@[simp] theorem State.answerSlot_notices (l : Line) (a : Answer) : (State.answerSlot l a s).notices = s.notices := rfl
@[simp] theorem State.answerSlot_profile (l : Line) (a : Answer) : (State.answerSlot l a s).profile = s.profile := rfl
@[simp] theorem State.answerSlot_profileStatus (l : Line) (a : Answer) : (State.answerSlot l a s).profileStatus = s.profileStatus := rfl
@[simp] theorem State.answerSlot_store (l : Line) (a : Answer) : (State.answerSlot l a s).store = s.store := rfl
@[simp] theorem State.answerSlot_draws (l : Line) (a : Answer) : (State.answerSlot l a s).draws = s.draws := rfl
@[simp] theorem State.answerSlot_pending (l : Line) (a : Answer) : (State.answerSlot l a s).pending = s.pending := rfl

@[simp] theorem State.shiftOut_phase (bs : List Byte) : (State.shiftOut bs s).phase = s.phase := rfl
@[simp] theorem State.shiftOut_clock (bs : List Byte) : (State.shiftOut bs s).clock = s.clock := rfl
@[simp] theorem State.shiftOut_titles (bs : List Byte) : (State.shiftOut bs s).titles = s.titles := rfl
@[simp] theorem State.shiftOut_missList (bs : List Byte) : (State.shiftOut bs s).missList = s.missList := rfl
@[simp] theorem State.shiftOut_ranges (bs : List Byte) : (State.shiftOut bs s).ranges = s.ranges := rfl
@[simp] theorem State.shiftOut_volumes (bs : List Byte) : (State.shiftOut bs s).volumes = s.volumes := rfl
@[simp] theorem State.shiftOut_postPress (bs : List Byte) : (State.shiftOut bs s).postPress = s.postPress := rfl
@[simp] theorem State.shiftOut_caseWindow (bs : List Byte) : (State.shiftOut bs s).caseWindow = s.caseWindow := rfl
@[simp] theorem State.shiftOut_jacketWindow (bs : List Byte) : (State.shiftOut bs s).jacketWindow = s.jacketWindow := rfl
@[simp] theorem State.shiftOut_bays (bs : List Byte) : (State.shiftOut bs s).bays = s.bays := rfl
@[simp] theorem State.shiftOut_governor (bs : List Byte) : (State.shiftOut bs s).governor = s.governor := rfl
@[simp] theorem State.shiftOut_reports (bs : List Byte) : (State.shiftOut bs s).reports = s.reports := rfl
@[simp] theorem State.shiftOut_stations (bs : List Byte) : (State.shiftOut bs s).stations = s.stations := rfl
@[simp] theorem State.shiftOut_supervisor (bs : List Byte) : (State.shiftOut bs s).supervisor =
    { s.supervisor with shifted := bs } := rfl
@[simp] theorem State.shiftOut_notices (bs : List Byte) : (State.shiftOut bs s).notices = s.notices := rfl
@[simp] theorem State.shiftOut_profile (bs : List Byte) : (State.shiftOut bs s).profile = s.profile := rfl
@[simp] theorem State.shiftOut_profileStatus (bs : List Byte) : (State.shiftOut bs s).profileStatus = s.profileStatus := rfl
@[simp] theorem State.shiftOut_store (bs : List Byte) : (State.shiftOut bs s).store = s.store := rfl
@[simp] theorem State.shiftOut_draws (bs : List Byte) : (State.shiftOut bs s).draws = s.draws := rfl
@[simp] theorem State.shiftOut_pending (bs : List Byte) : (State.shiftOut bs s).pending = s.pending := rfl

@[simp] theorem State.setAnswerSlot_phase (x : SupervisorSlot) : (State.setAnswerSlot x s).phase = s.phase := rfl
@[simp] theorem State.setAnswerSlot_clock (x : SupervisorSlot) : (State.setAnswerSlot x s).clock = s.clock := rfl
@[simp] theorem State.setAnswerSlot_titles (x : SupervisorSlot) : (State.setAnswerSlot x s).titles = s.titles := rfl
@[simp] theorem State.setAnswerSlot_missList (x : SupervisorSlot) : (State.setAnswerSlot x s).missList = s.missList := rfl
@[simp] theorem State.setAnswerSlot_ranges (x : SupervisorSlot) : (State.setAnswerSlot x s).ranges = s.ranges := rfl
@[simp] theorem State.setAnswerSlot_volumes (x : SupervisorSlot) : (State.setAnswerSlot x s).volumes = s.volumes := rfl
@[simp] theorem State.setAnswerSlot_postPress (x : SupervisorSlot) : (State.setAnswerSlot x s).postPress = s.postPress := rfl
@[simp] theorem State.setAnswerSlot_caseWindow (x : SupervisorSlot) : (State.setAnswerSlot x s).caseWindow = s.caseWindow := rfl
@[simp] theorem State.setAnswerSlot_jacketWindow (x : SupervisorSlot) : (State.setAnswerSlot x s).jacketWindow = s.jacketWindow := rfl
@[simp] theorem State.setAnswerSlot_bays (x : SupervisorSlot) : (State.setAnswerSlot x s).bays = s.bays := rfl
@[simp] theorem State.setAnswerSlot_governor (x : SupervisorSlot) : (State.setAnswerSlot x s).governor = s.governor := rfl
@[simp] theorem State.setAnswerSlot_reports (x : SupervisorSlot) : (State.setAnswerSlot x s).reports = s.reports := rfl
@[simp] theorem State.setAnswerSlot_stations (x : SupervisorSlot) : (State.setAnswerSlot x s).stations = s.stations := rfl
@[simp] theorem State.setAnswerSlot_supervisor (x : SupervisorSlot) : (State.setAnswerSlot x s).supervisor =
    { s.supervisor with slot := x } := rfl
@[simp] theorem State.setAnswerSlot_notices (x : SupervisorSlot) : (State.setAnswerSlot x s).notices = s.notices := rfl
@[simp] theorem State.setAnswerSlot_profile (x : SupervisorSlot) : (State.setAnswerSlot x s).profile = s.profile := rfl
@[simp] theorem State.setAnswerSlot_profileStatus (x : SupervisorSlot) : (State.setAnswerSlot x s).profileStatus = s.profileStatus := rfl
@[simp] theorem State.setAnswerSlot_store (x : SupervisorSlot) : (State.setAnswerSlot x s).store = s.store := rfl
@[simp] theorem State.setAnswerSlot_draws (x : SupervisorSlot) : (State.setAnswerSlot x s).draws = s.draws := rfl
@[simp] theorem State.setAnswerSlot_pending (x : SupervisorSlot) : (State.setAnswerSlot x s).pending = s.pending := rfl

@[simp] theorem State.answered_phase (a : Answer) : (State.answered a s).phase = s.phase := rfl
@[simp] theorem State.answered_clock (a : Answer) : (State.answered a s).clock = s.clock := rfl
@[simp] theorem State.answered_titles (a : Answer) : (State.answered a s).titles = s.titles := rfl
@[simp] theorem State.answered_missList (a : Answer) : (State.answered a s).missList = s.missList := rfl
@[simp] theorem State.answered_ranges (a : Answer) : (State.answered a s).ranges = s.ranges := rfl
@[simp] theorem State.answered_volumes (a : Answer) : (State.answered a s).volumes = s.volumes := rfl
@[simp] theorem State.answered_postPress (a : Answer) : (State.answered a s).postPress = s.postPress := rfl
@[simp] theorem State.answered_caseWindow (a : Answer) : (State.answered a s).caseWindow = s.caseWindow := rfl
@[simp] theorem State.answered_jacketWindow (a : Answer) : (State.answered a s).jacketWindow = s.jacketWindow := rfl
@[simp] theorem State.answered_bays (a : Answer) : (State.answered a s).bays = s.bays := rfl
@[simp] theorem State.answered_governor (a : Answer) : (State.answered a s).governor = s.governor := rfl
@[simp] theorem State.answered_reports (a : Answer) : (State.answered a s).reports = s.reports := rfl
@[simp] theorem State.answered_stations (a : Answer) : (State.answered a s).stations = s.stations := rfl
@[simp] theorem State.answered_supervisor (a : Answer) : (State.answered a s).supervisor =
    ⟨.holding a 0, [0x00#8]⟩ := rfl
@[simp] theorem State.answered_notices (a : Answer) : (State.answered a s).notices = s.notices := rfl
@[simp] theorem State.answered_profile (a : Answer) : (State.answered a s).profile = s.profile := rfl
@[simp] theorem State.answered_profileStatus (a : Answer) : (State.answered a s).profileStatus = s.profileStatus := rfl
@[simp] theorem State.answered_store (a : Answer) : (State.answered a s).store = s.store := rfl
@[simp] theorem State.answered_draws (a : Answer) : (State.answered a s).draws = s.draws := rfl
@[simp] theorem State.answered_pending (a : Answer) : (State.answered a s).pending = s.pending := rfl

@[simp] theorem State.giveFinish_phase (n : Nat) (f : Finish) : (State.giveFinish n f s).phase = s.phase := rfl
@[simp] theorem State.giveFinish_clock (n : Nat) (f : Finish) : (State.giveFinish n f s).clock = s.clock := rfl
@[simp] theorem State.giveFinish_titles (n : Nat) (f : Finish) : (State.giveFinish n f s).titles = s.titles := rfl
@[simp] theorem State.giveFinish_missList (n : Nat) (f : Finish) : (State.giveFinish n f s).missList = s.missList := rfl
@[simp] theorem State.giveFinish_ranges (n : Nat) (f : Finish) : (State.giveFinish n f s).ranges = s.ranges := rfl
@[simp] theorem State.giveFinish_volumes (n : Nat) (f : Finish) : (State.giveFinish n f s).volumes =
    s.volumes.map fun v =>
      if v.number = n then { v with state := .jacketing, finish := some f } else v := rfl
@[simp] theorem State.giveFinish_postPress (n : Nat) (f : Finish) : (State.giveFinish n f s).postPress = s.postPress := rfl
@[simp] theorem State.giveFinish_caseWindow (n : Nat) (f : Finish) : (State.giveFinish n f s).caseWindow = s.caseWindow := rfl
@[simp] theorem State.giveFinish_jacketWindow (n : Nat) (f : Finish) : (State.giveFinish n f s).jacketWindow = s.jacketWindow := rfl
@[simp] theorem State.giveFinish_bays (n : Nat) (f : Finish) : (State.giveFinish n f s).bays = s.bays := rfl
@[simp] theorem State.giveFinish_governor (n : Nat) (f : Finish) : (State.giveFinish n f s).governor = s.governor := rfl
@[simp] theorem State.giveFinish_reports (n : Nat) (f : Finish) : (State.giveFinish n f s).reports = s.reports := rfl
@[simp] theorem State.giveFinish_stations (n : Nat) (f : Finish) : (State.giveFinish n f s).stations = s.stations := rfl
@[simp] theorem State.giveFinish_supervisor (n : Nat) (f : Finish) : (State.giveFinish n f s).supervisor = s.supervisor := rfl
@[simp] theorem State.giveFinish_notices (n : Nat) (f : Finish) : (State.giveFinish n f s).notices = s.notices := rfl
@[simp] theorem State.giveFinish_profile (n : Nat) (f : Finish) : (State.giveFinish n f s).profile = s.profile := rfl
@[simp] theorem State.giveFinish_profileStatus (n : Nat) (f : Finish) : (State.giveFinish n f s).profileStatus = s.profileStatus := rfl
@[simp] theorem State.giveFinish_store (n : Nat) (f : Finish) : (State.giveFinish n f s).store = s.store := rfl
@[simp] theorem State.giveFinish_draws (n : Nat) (f : Finish) : (State.giveFinish n f s).draws = s.draws := rfl
@[simp] theorem State.giveFinish_pending (n : Nat) (f : Finish) : (State.giveFinish n f s).pending = s.pending := rfl

@[simp] theorem State.releaseLatches_phase : (State.releaseLatches s).phase = s.phase := rfl
@[simp] theorem State.releaseLatches_clock : (State.releaseLatches s).clock = s.clock := rfl
@[simp] theorem State.releaseLatches_titles : (State.releaseLatches s).titles = s.titles := rfl
@[simp] theorem State.releaseLatches_missList : (State.releaseLatches s).missList = s.missList := rfl
@[simp] theorem State.releaseLatches_ranges : (State.releaseLatches s).ranges = s.ranges := rfl
@[simp] theorem State.releaseLatches_volumes : (State.releaseLatches s).volumes = s.volumes := rfl
@[simp] theorem State.releaseLatches_postPress : (State.releaseLatches s).postPress = s.postPress := rfl
@[simp] theorem State.releaseLatches_caseWindow : (State.releaseLatches s).caseWindow = s.caseWindow := rfl
@[simp] theorem State.releaseLatches_jacketWindow : (State.releaseLatches s).jacketWindow = s.jacketWindow := rfl
@[simp] theorem State.releaseLatches_bays : (State.releaseLatches s).bays = s.bays := rfl
@[simp] theorem State.releaseLatches_governor : (State.releaseLatches s).governor =
    { s.governor with
      guardLatch := s.governor.guardLatch && s.governor.lines.guardOpen
      glueLatch := s.governor.glueLatch && !s.governor.lines.glueReady } := rfl
@[simp] theorem State.releaseLatches_reports : (State.releaseLatches s).reports = s.reports := rfl
@[simp] theorem State.releaseLatches_stations : (State.releaseLatches s).stations = s.stations := rfl
@[simp] theorem State.releaseLatches_supervisor : (State.releaseLatches s).supervisor = s.supervisor := rfl
@[simp] theorem State.releaseLatches_notices : (State.releaseLatches s).notices = s.notices := rfl
@[simp] theorem State.releaseLatches_profile : (State.releaseLatches s).profile = s.profile := rfl
@[simp] theorem State.releaseLatches_profileStatus : (State.releaseLatches s).profileStatus = s.profileStatus := rfl
@[simp] theorem State.releaseLatches_store : (State.releaseLatches s).store = s.store := rfl
@[simp] theorem State.releaseLatches_draws : (State.releaseLatches s).draws = s.draws := rfl
@[simp] theorem State.releaseLatches_pending : (State.releaseLatches s).pending = s.pending := rfl

@[simp] theorem State.clearFlags_phase (m : BitVec 14) : (State.clearFlags m s).phase = s.phase := rfl
@[simp] theorem State.clearFlags_clock (m : BitVec 14) : (State.clearFlags m s).clock = s.clock := rfl
@[simp] theorem State.clearFlags_titles (m : BitVec 14) : (State.clearFlags m s).titles = s.titles := rfl
@[simp] theorem State.clearFlags_missList (m : BitVec 14) : (State.clearFlags m s).missList = s.missList := rfl
@[simp] theorem State.clearFlags_ranges (m : BitVec 14) : (State.clearFlags m s).ranges = s.ranges := rfl
@[simp] theorem State.clearFlags_volumes (m : BitVec 14) : (State.clearFlags m s).volumes = s.volumes := rfl
@[simp] theorem State.clearFlags_postPress (m : BitVec 14) : (State.clearFlags m s).postPress = s.postPress := rfl
@[simp] theorem State.clearFlags_caseWindow (m : BitVec 14) : (State.clearFlags m s).caseWindow = s.caseWindow := rfl
@[simp] theorem State.clearFlags_jacketWindow (m : BitVec 14) : (State.clearFlags m s).jacketWindow = s.jacketWindow := rfl
@[simp] theorem State.clearFlags_bays (m : BitVec 14) : (State.clearFlags m s).bays = s.bays := rfl
@[simp] theorem State.clearFlags_governor (m : BitVec 14) : (State.clearFlags m s).governor = s.governor := rfl
@[simp] theorem State.clearFlags_reports (m : BitVec 14) : (State.clearFlags m s).reports = s.reports := rfl
@[simp] theorem State.clearFlags_stations (m : BitVec 14) : (State.clearFlags m s).stations = s.stations := rfl
@[simp] theorem State.clearFlags_supervisor (m : BitVec 14) : (State.clearFlags m s).supervisor = s.supervisor := rfl
@[simp] theorem State.clearFlags_notices (m : BitVec 14) : (State.clearFlags m s).notices =
    { s.notices with
      flags := (s.notices.flags &&& ~~~m) ||| (m &&& s.notices.enables &&& s.conditions) } := rfl
@[simp] theorem State.clearFlags_profile (m : BitVec 14) : (State.clearFlags m s).profile = s.profile := rfl
@[simp] theorem State.clearFlags_profileStatus (m : BitVec 14) : (State.clearFlags m s).profileStatus = s.profileStatus := rfl
@[simp] theorem State.clearFlags_store (m : BitVec 14) : (State.clearFlags m s).store = s.store := rfl
@[simp] theorem State.clearFlags_draws (m : BitVec 14) : (State.clearFlags m s).draws = s.draws := rfl
@[simp] theorem State.clearFlags_pending (m : BitVec 14) : (State.clearFlags m s).pending = s.pending := rfl

@[simp] theorem State.writeEnables_phase (m : BitVec 14) : (State.writeEnables m s).phase = s.phase := rfl
@[simp] theorem State.writeEnables_clock (m : BitVec 14) : (State.writeEnables m s).clock = s.clock := rfl
@[simp] theorem State.writeEnables_titles (m : BitVec 14) : (State.writeEnables m s).titles = s.titles := rfl
@[simp] theorem State.writeEnables_missList (m : BitVec 14) : (State.writeEnables m s).missList = s.missList := rfl
@[simp] theorem State.writeEnables_ranges (m : BitVec 14) : (State.writeEnables m s).ranges = s.ranges := rfl
@[simp] theorem State.writeEnables_volumes (m : BitVec 14) : (State.writeEnables m s).volumes = s.volumes := rfl
@[simp] theorem State.writeEnables_postPress (m : BitVec 14) : (State.writeEnables m s).postPress = s.postPress := rfl
@[simp] theorem State.writeEnables_caseWindow (m : BitVec 14) : (State.writeEnables m s).caseWindow = s.caseWindow := rfl
@[simp] theorem State.writeEnables_jacketWindow (m : BitVec 14) : (State.writeEnables m s).jacketWindow = s.jacketWindow := rfl
@[simp] theorem State.writeEnables_bays (m : BitVec 14) : (State.writeEnables m s).bays = s.bays := rfl
@[simp] theorem State.writeEnables_governor (m : BitVec 14) : (State.writeEnables m s).governor = s.governor := rfl
@[simp] theorem State.writeEnables_reports (m : BitVec 14) : (State.writeEnables m s).reports = s.reports := rfl
@[simp] theorem State.writeEnables_stations (m : BitVec 14) : (State.writeEnables m s).stations = s.stations := rfl
@[simp] theorem State.writeEnables_supervisor (m : BitVec 14) : (State.writeEnables m s).supervisor = s.supervisor := rfl
@[simp] theorem State.writeEnables_profile (m : BitVec 14) : (State.writeEnables m s).profile = s.profile := rfl
@[simp] theorem State.writeEnables_profileStatus (m : BitVec 14) : (State.writeEnables m s).profileStatus = s.profileStatus := rfl
@[simp] theorem State.writeEnables_store (m : BitVec 14) : (State.writeEnables m s).store = s.store := rfl
@[simp] theorem State.writeEnables_draws (m : BitVec 14) : (State.writeEnables m s).draws = s.draws := rfl
@[simp] theorem State.writeEnables_pending (m : BitVec 14) : (State.writeEnables m s).pending = s.pending := rfl

@[simp] theorem State.lowerWaits_phase : (State.lowerWaits s).phase = s.phase := rfl
@[simp] theorem State.lowerWaits_clock : (State.lowerWaits s).clock = s.clock := rfl
@[simp] theorem State.lowerWaits_titles : (State.lowerWaits s).titles = s.titles := rfl
@[simp] theorem State.lowerWaits_missList : (State.lowerWaits s).missList = s.missList := rfl
@[simp] theorem State.lowerWaits_ranges : (State.lowerWaits s).ranges = s.ranges := rfl
@[simp] theorem State.lowerWaits_postPress : (State.lowerWaits s).postPress = s.postPress := rfl
@[simp] theorem State.lowerWaits_caseWindow : (State.lowerWaits s).caseWindow = s.caseWindow := rfl
@[simp] theorem State.lowerWaits_jacketWindow : (State.lowerWaits s).jacketWindow = s.jacketWindow := rfl
@[simp] theorem State.lowerWaits_bays : (State.lowerWaits s).bays = s.bays := rfl
@[simp] theorem State.lowerWaits_governor : (State.lowerWaits s).governor = s.governor := rfl
@[simp] theorem State.lowerWaits_reports : (State.lowerWaits s).reports = s.reports := rfl
@[simp] theorem State.lowerWaits_stations : (State.lowerWaits s).stations = s.stations := rfl
@[simp] theorem State.lowerWaits_supervisor : (State.lowerWaits s).supervisor = s.supervisor := rfl
@[simp] theorem State.lowerWaits_notices : (State.lowerWaits s).notices = s.notices := rfl
@[simp] theorem State.lowerWaits_profile : (State.lowerWaits s).profile = s.profile := rfl
@[simp] theorem State.lowerWaits_profileStatus : (State.lowerWaits s).profileStatus = s.profileStatus := rfl
@[simp] theorem State.lowerWaits_store : (State.lowerWaits s).store = s.store := rfl
@[simp] theorem State.lowerWaits_draws : (State.lowerWaits s).draws = s.draws := rfl
@[simp] theorem State.lowerWaits_pending : (State.lowerWaits s).pending = s.pending := rfl

@[simp] theorem State.clearLine_phase : (State.clearLine s).phase = s.phase := rfl
@[simp] theorem State.clearLine_clock : (State.clearLine s).clock = s.clock := rfl
@[simp] theorem State.clearLine_titles : (State.clearLine s).titles = s.titles := rfl
@[simp] theorem State.clearLine_missList : (State.clearLine s).missList = s.missList := rfl
@[simp] theorem State.clearLine_ranges : (State.clearLine s).ranges = s.ranges := rfl
@[simp] theorem State.clearLine_volumes : (State.clearLine s).volumes = s.volumes := rfl
@[simp] theorem State.clearLine_postPress : (State.clearLine s).postPress = s.postPress := rfl
@[simp] theorem State.clearLine_caseWindow : (State.clearLine s).caseWindow = [] := rfl
@[simp] theorem State.clearLine_jacketWindow : (State.clearLine s).jacketWindow = [] := rfl
@[simp] theorem State.clearLine_bays : (State.clearLine s).bays = s.bays.map (clearBay s.clock) := rfl
@[simp] theorem State.clearLine_governor : (State.clearLine s).governor = s.governor := rfl
@[simp] theorem State.clearLine_reports : (State.clearLine s).reports = [] := rfl
@[simp] theorem State.clearLine_stations : (State.clearLine s).stations =
    s.stations.map fun r => { r with slot := clearSlot r.slot } := rfl
@[simp] theorem State.clearLine_supervisor : (State.clearLine s).supervisor = s.supervisor := rfl
@[simp] theorem State.clearLine_notices : (State.clearLine s).notices = s.notices := rfl
@[simp] theorem State.clearLine_profile : (State.clearLine s).profile = s.profile := rfl
@[simp] theorem State.clearLine_profileStatus : (State.clearLine s).profileStatus = s.profileStatus := rfl
@[simp] theorem State.clearLine_store : (State.clearLine s).store = s.store := rfl
@[simp] theorem State.clearLine_draws : (State.clearLine s).draws = s.draws := rfl
@[simp] theorem State.clearLine_pending : (State.clearLine s).pending = s.pending := rfl

@[simp] theorem State.beginSave_phase : (State.beginSave s).phase = s.phase := rfl
@[simp] theorem State.beginSave_clock : (State.beginSave s).clock = s.clock := rfl
@[simp] theorem State.beginSave_titles : (State.beginSave s).titles = s.titles := rfl
@[simp] theorem State.beginSave_missList : (State.beginSave s).missList = s.missList := rfl
@[simp] theorem State.beginSave_ranges : (State.beginSave s).ranges = s.ranges := rfl
@[simp] theorem State.beginSave_volumes : (State.beginSave s).volumes = s.volumes := rfl
@[simp] theorem State.beginSave_postPress : (State.beginSave s).postPress = s.postPress := rfl
@[simp] theorem State.beginSave_caseWindow : (State.beginSave s).caseWindow = s.caseWindow := rfl
@[simp] theorem State.beginSave_jacketWindow : (State.beginSave s).jacketWindow = s.jacketWindow := rfl
@[simp] theorem State.beginSave_bays : (State.beginSave s).bays = s.bays := rfl
@[simp] theorem State.beginSave_governor : (State.beginSave s).governor = s.governor := rfl
@[simp] theorem State.beginSave_reports : (State.beginSave s).reports = s.reports := rfl
@[simp] theorem State.beginSave_stations : (State.beginSave s).stations = s.stations := rfl
@[simp] theorem State.beginSave_supervisor : (State.beginSave s).supervisor = s.supervisor := rfl
@[simp] theorem State.beginSave_notices : (State.beginSave s).notices = s.notices := rfl
@[simp] theorem State.beginSave_profile : (State.beginSave s).profile = s.profile := rfl
@[simp] theorem State.beginSave_profileStatus : (State.beginSave s).profileStatus =
    { s.profileStatus with save := .writing s.store.marker } := rfl
@[simp] theorem State.beginSave_store : (State.beginSave s).store = { s.store with marker := invalidMarker } := rfl
@[simp] theorem State.beginSave_draws : (State.beginSave s).draws = s.draws := rfl
@[simp] theorem State.beginSave_pending : (State.beginSave s).pending = s.pending := rfl

@[simp] theorem State.tick_phase : (State.tick s).phase = s.phase := rfl
@[simp] theorem State.tick_clock : (State.tick s).clock = s.clock + 1 := rfl
@[simp] theorem State.tick_titles : (State.tick s).titles = s.titles := rfl
@[simp] theorem State.tick_missList : (State.tick s).missList = s.missList := rfl
@[simp] theorem State.tick_ranges : (State.tick s).ranges = s.ranges := rfl
@[simp] theorem State.tick_volumes : (State.tick s).volumes = s.volumes := rfl
@[simp] theorem State.tick_postPress : (State.tick s).postPress = s.postPress := rfl
@[simp] theorem State.tick_caseWindow : (State.tick s).caseWindow = s.caseWindow := rfl
@[simp] theorem State.tick_jacketWindow : (State.tick s).jacketWindow = s.jacketWindow := rfl
@[simp] theorem State.tick_bays : (State.tick s).bays = s.bays := rfl
@[simp] theorem State.tick_governor : (State.tick s).governor = s.governor := rfl
@[simp] theorem State.tick_reports : (State.tick s).reports = s.reports := rfl
@[simp] theorem State.tick_stations : (State.tick s).stations = s.stations := rfl
@[simp] theorem State.tick_supervisor : (State.tick s).supervisor = s.supervisor := rfl
@[simp] theorem State.tick_notices : (State.tick s).notices = s.notices := rfl
@[simp] theorem State.tick_profile : (State.tick s).profile = s.profile := rfl
@[simp] theorem State.tick_profileStatus : (State.tick s).profileStatus = s.profileStatus := rfl
@[simp] theorem State.tick_store : (State.tick s).store = s.store := rfl
@[simp] theorem State.tick_draws : (State.tick s).draws = s.draws := rfl
@[simp] theorem State.tick_pending : (State.tick s).pending = s.pending := rfl

end Sys2Proof.Machine
end

