-- ==== Sys2Proof/Laws/Ops.lean ====
section
/-! SUPPORT. What the shared operations that branch can do: for each, the fields it leaves, and once everything it
answers. -/

namespace Sys2Proof.Machine

variable (s : State)

/-! ### Fields left -/

@[simp] theorem State.levelRises_phase (k : Notice) (w : Bool) : (State.levelRises k w s).phase = s.phase := by
  unfold State.levelRises; split <;> rfl
@[simp] theorem State.levelRises_clock (k : Notice) (w : Bool) : (State.levelRises k w s).clock = s.clock := by
  unfold State.levelRises; split <;> rfl
@[simp] theorem State.levelRises_titles (k : Notice) (w : Bool) : (State.levelRises k w s).titles = s.titles := by
  unfold State.levelRises; split <;> rfl
@[simp] theorem State.levelRises_missList (k : Notice) (w : Bool) : (State.levelRises k w s).missList = s.missList := by
  unfold State.levelRises; split <;> rfl
@[simp] theorem State.levelRises_ranges (k : Notice) (w : Bool) : (State.levelRises k w s).ranges = s.ranges := by
  unfold State.levelRises; split <;> rfl
@[simp] theorem State.levelRises_volumes (k : Notice) (w : Bool) : (State.levelRises k w s).volumes = s.volumes := by
  unfold State.levelRises; split <;> rfl
@[simp] theorem State.levelRises_postPress (k : Notice) (w : Bool) : (State.levelRises k w s).postPress = s.postPress := by
  unfold State.levelRises; split <;> rfl
@[simp] theorem State.levelRises_caseWindow (k : Notice) (w : Bool) : (State.levelRises k w s).caseWindow = s.caseWindow := by
  unfold State.levelRises; split <;> rfl
@[simp] theorem State.levelRises_jacketWindow (k : Notice) (w : Bool) : (State.levelRises k w s).jacketWindow = s.jacketWindow := by
  unfold State.levelRises; split <;> rfl
@[simp] theorem State.levelRises_bays (k : Notice) (w : Bool) : (State.levelRises k w s).bays = s.bays := by
  unfold State.levelRises; split <;> rfl
@[simp] theorem State.levelRises_governor (k : Notice) (w : Bool) : (State.levelRises k w s).governor = s.governor := by
  unfold State.levelRises; split <;> rfl
@[simp] theorem State.levelRises_reports (k : Notice) (w : Bool) : (State.levelRises k w s).reports = s.reports := by
  unfold State.levelRises; split <;> rfl
@[simp] theorem State.levelRises_stations (k : Notice) (w : Bool) : (State.levelRises k w s).stations = s.stations := by
  unfold State.levelRises; split <;> rfl
@[simp] theorem State.levelRises_supervisor (k : Notice) (w : Bool) : (State.levelRises k w s).supervisor = s.supervisor := by
  unfold State.levelRises; split <;> rfl
@[simp] theorem State.levelRises_profile (k : Notice) (w : Bool) : (State.levelRises k w s).profile = s.profile := by
  unfold State.levelRises; split <;> rfl
@[simp] theorem State.levelRises_profileStatus (k : Notice) (w : Bool) : (State.levelRises k w s).profileStatus = s.profileStatus := by
  unfold State.levelRises; split <;> rfl
@[simp] theorem State.levelRises_store (k : Notice) (w : Bool) : (State.levelRises k w s).store = s.store := by
  unfold State.levelRises; split <;> rfl
@[simp] theorem State.levelRises_draws (k : Notice) (w : Bool) : (State.levelRises k w s).draws = s.draws := by
  unfold State.levelRises; split <;> rfl
@[simp] theorem State.levelRises_pending (k : Notice) (w : Bool) : (State.levelRises k w s).pending = s.pending := by
  unfold State.levelRises; split <;> rfl

@[simp] theorem State.repace_phase : (State.repace s).phase = s.phase := by
  unfold State.repace; split <;> rfl
@[simp] theorem State.repace_clock : (State.repace s).clock = s.clock := by
  unfold State.repace; split <;> rfl
@[simp] theorem State.repace_titles : (State.repace s).titles = s.titles := by
  unfold State.repace; split <;> rfl
@[simp] theorem State.repace_missList : (State.repace s).missList = s.missList := by
  unfold State.repace; split <;> rfl
@[simp] theorem State.repace_ranges : (State.repace s).ranges = s.ranges := by
  unfold State.repace; split <;> rfl
@[simp] theorem State.repace_volumes : (State.repace s).volumes = s.volumes := by
  unfold State.repace; split <;> rfl
@[simp] theorem State.repace_postPress : (State.repace s).postPress = s.postPress := by
  unfold State.repace; split <;> rfl
@[simp] theorem State.repace_caseWindow : (State.repace s).caseWindow = s.caseWindow := by
  unfold State.repace; split <;> rfl
@[simp] theorem State.repace_jacketWindow : (State.repace s).jacketWindow = s.jacketWindow := by
  unfold State.repace; split <;> rfl
@[simp] theorem State.repace_bays : (State.repace s).bays = s.bays := by
  unfold State.repace; split <;> rfl
@[simp] theorem State.repace_reports : (State.repace s).reports = s.reports := by
  unfold State.repace; split <;> rfl
@[simp] theorem State.repace_stations : (State.repace s).stations = s.stations := by
  unfold State.repace; split <;> rfl
@[simp] theorem State.repace_supervisor : (State.repace s).supervisor = s.supervisor := by
  unfold State.repace; split <;> rfl
@[simp] theorem State.repace_profile : (State.repace s).profile = s.profile := by
  unfold State.repace; split <;> rfl
@[simp] theorem State.repace_profileStatus : (State.repace s).profileStatus = s.profileStatus := by
  unfold State.repace; split <;> rfl
@[simp] theorem State.repace_store : (State.repace s).store = s.store := by
  unfold State.repace; split <;> rfl
@[simp] theorem State.repace_draws : (State.repace s).draws = s.draws := by
  unfold State.repace; split <;> rfl
@[simp] theorem State.repace_pending : (State.repace s).pending = s.pending := by
  unfold State.repace; split <;> rfl

@[simp] theorem State.handAdmit_phase : (State.handAdmit s).phase = s.phase := by
  unfold State.handAdmit; split <;> rfl
@[simp] theorem State.handAdmit_clock : (State.handAdmit s).clock = s.clock := by
  unfold State.handAdmit; split <;> rfl
@[simp] theorem State.handAdmit_titles : (State.handAdmit s).titles = s.titles := by
  unfold State.handAdmit; split <;> rfl
@[simp] theorem State.handAdmit_missList : (State.handAdmit s).missList = s.missList := by
  unfold State.handAdmit; split <;> rfl
@[simp] theorem State.handAdmit_ranges : (State.handAdmit s).ranges = s.ranges := by
  unfold State.handAdmit; split <;> rfl
@[simp] theorem State.handAdmit_volumes : (State.handAdmit s).volumes = s.volumes := by
  unfold State.handAdmit; split <;> rfl
@[simp] theorem State.handAdmit_postPress : (State.handAdmit s).postPress = s.postPress := by
  unfold State.handAdmit; split <;> rfl
@[simp] theorem State.handAdmit_caseWindow : (State.handAdmit s).caseWindow = s.caseWindow := by
  unfold State.handAdmit; split <;> rfl
@[simp] theorem State.handAdmit_jacketWindow : (State.handAdmit s).jacketWindow = s.jacketWindow := by
  unfold State.handAdmit; split <;> rfl
@[simp] theorem State.handAdmit_bays : (State.handAdmit s).bays = s.bays := by
  unfold State.handAdmit; split <;> rfl
@[simp] theorem State.handAdmit_reports : (State.handAdmit s).reports = s.reports := by
  unfold State.handAdmit; split <;> rfl
@[simp] theorem State.handAdmit_stations : (State.handAdmit s).stations = s.stations := by
  unfold State.handAdmit; split <;> rfl
@[simp] theorem State.handAdmit_supervisor : (State.handAdmit s).supervisor = s.supervisor := by
  unfold State.handAdmit; split <;> rfl
@[simp] theorem State.handAdmit_notices : (State.handAdmit s).notices = s.notices := by
  unfold State.handAdmit; split <;> rfl
@[simp] theorem State.handAdmit_profile : (State.handAdmit s).profile = s.profile := by
  unfold State.handAdmit; split <;> rfl
@[simp] theorem State.handAdmit_profileStatus : (State.handAdmit s).profileStatus = s.profileStatus := by
  unfold State.handAdmit; split <;> rfl
@[simp] theorem State.handAdmit_store : (State.handAdmit s).store = s.store := by
  unfold State.handAdmit; split <;> rfl
@[simp] theorem State.handAdmit_draws : (State.handAdmit s).draws = s.draws := by
  unfold State.handAdmit; split <;> rfl
@[simp] theorem State.handAdmit_pending : (State.handAdmit s).pending = s.pending := by
  unfold State.handAdmit; split <;> rfl

@[simp] theorem State.setGuardLatch_phase : (State.setGuardLatch s).phase = s.phase := by
  simp [State.setGuardLatch]
@[simp] theorem State.setGuardLatch_clock : (State.setGuardLatch s).clock = s.clock := by
  simp [State.setGuardLatch]
@[simp] theorem State.setGuardLatch_titles : (State.setGuardLatch s).titles = s.titles := by
  simp [State.setGuardLatch]
@[simp] theorem State.setGuardLatch_missList : (State.setGuardLatch s).missList = s.missList := by
  simp [State.setGuardLatch]
@[simp] theorem State.setGuardLatch_ranges : (State.setGuardLatch s).ranges = s.ranges := by
  simp [State.setGuardLatch]
@[simp] theorem State.setGuardLatch_volumes : (State.setGuardLatch s).volumes = s.volumes := by
  simp [State.setGuardLatch]
@[simp] theorem State.setGuardLatch_postPress : (State.setGuardLatch s).postPress = s.postPress := by
  simp [State.setGuardLatch]
@[simp] theorem State.setGuardLatch_caseWindow : (State.setGuardLatch s).caseWindow = s.caseWindow := by
  simp [State.setGuardLatch]
@[simp] theorem State.setGuardLatch_jacketWindow : (State.setGuardLatch s).jacketWindow = s.jacketWindow := by
  simp [State.setGuardLatch]
@[simp] theorem State.setGuardLatch_bays : (State.setGuardLatch s).bays = s.bays := by
  simp [State.setGuardLatch]
@[simp] theorem State.setGuardLatch_reports : (State.setGuardLatch s).reports = s.reports := by
  simp [State.setGuardLatch]
@[simp] theorem State.setGuardLatch_stations : (State.setGuardLatch s).stations = s.stations := by
  simp [State.setGuardLatch]
@[simp] theorem State.setGuardLatch_supervisor : (State.setGuardLatch s).supervisor = s.supervisor := by
  simp [State.setGuardLatch]
@[simp] theorem State.setGuardLatch_profile : (State.setGuardLatch s).profile = s.profile := by
  simp [State.setGuardLatch]
@[simp] theorem State.setGuardLatch_profileStatus : (State.setGuardLatch s).profileStatus = s.profileStatus := by
  simp [State.setGuardLatch]
@[simp] theorem State.setGuardLatch_store : (State.setGuardLatch s).store = s.store := by
  simp [State.setGuardLatch]
@[simp] theorem State.setGuardLatch_draws : (State.setGuardLatch s).draws = s.draws := by
  simp [State.setGuardLatch]
@[simp] theorem State.setGuardLatch_pending : (State.setGuardLatch s).pending = s.pending := by
  simp [State.setGuardLatch]

@[simp] theorem State.setGlueLatch_phase : (State.setGlueLatch s).phase = s.phase := by
  simp [State.setGlueLatch]
@[simp] theorem State.setGlueLatch_clock : (State.setGlueLatch s).clock = s.clock := by
  simp [State.setGlueLatch]
@[simp] theorem State.setGlueLatch_titles : (State.setGlueLatch s).titles = s.titles := by
  simp [State.setGlueLatch]
@[simp] theorem State.setGlueLatch_missList : (State.setGlueLatch s).missList = s.missList := by
  simp [State.setGlueLatch]
@[simp] theorem State.setGlueLatch_ranges : (State.setGlueLatch s).ranges = s.ranges := by
  simp [State.setGlueLatch]
@[simp] theorem State.setGlueLatch_volumes : (State.setGlueLatch s).volumes = s.volumes := by
  simp [State.setGlueLatch]
@[simp] theorem State.setGlueLatch_postPress : (State.setGlueLatch s).postPress = s.postPress := by
  simp [State.setGlueLatch]
@[simp] theorem State.setGlueLatch_caseWindow : (State.setGlueLatch s).caseWindow = s.caseWindow := by
  simp [State.setGlueLatch]
@[simp] theorem State.setGlueLatch_jacketWindow : (State.setGlueLatch s).jacketWindow = s.jacketWindow := by
  simp [State.setGlueLatch]
@[simp] theorem State.setGlueLatch_bays : (State.setGlueLatch s).bays = s.bays := by
  simp [State.setGlueLatch]
@[simp] theorem State.setGlueLatch_reports : (State.setGlueLatch s).reports = s.reports := by
  simp [State.setGlueLatch]
@[simp] theorem State.setGlueLatch_stations : (State.setGlueLatch s).stations = s.stations := by
  simp [State.setGlueLatch]
@[simp] theorem State.setGlueLatch_supervisor : (State.setGlueLatch s).supervisor = s.supervisor := by
  simp [State.setGlueLatch]
@[simp] theorem State.setGlueLatch_profile : (State.setGlueLatch s).profile = s.profile := by
  simp [State.setGlueLatch]
@[simp] theorem State.setGlueLatch_profileStatus : (State.setGlueLatch s).profileStatus = s.profileStatus := by
  simp [State.setGlueLatch]
@[simp] theorem State.setGlueLatch_store : (State.setGlueLatch s).store = s.store := by
  simp [State.setGlueLatch]
@[simp] theorem State.setGlueLatch_draws : (State.setGlueLatch s).draws = s.draws := by
  simp [State.setGlueLatch]
@[simp] theorem State.setGlueLatch_pending : (State.setGlueLatch s).pending = s.pending := by
  simp [State.setGlueLatch]

@[simp] theorem State.settleMiss_phase (c : Nat) : (State.settleMiss c s).phase = s.phase := by
  unfold State.settleMiss; split <;> rfl
@[simp] theorem State.settleMiss_clock (c : Nat) : (State.settleMiss c s).clock = s.clock := by
  unfold State.settleMiss; split <;> rfl
@[simp] theorem State.settleMiss_titles (c : Nat) : (State.settleMiss c s).titles = s.titles := by
  unfold State.settleMiss; split <;> rfl
@[simp] theorem State.settleMiss_ranges (c : Nat) : (State.settleMiss c s).ranges = s.ranges := by
  unfold State.settleMiss; split <;> rfl
@[simp] theorem State.settleMiss_volumes (c : Nat) : (State.settleMiss c s).volumes = s.volumes := by
  unfold State.settleMiss; split <;> rfl
@[simp] theorem State.settleMiss_postPress (c : Nat) : (State.settleMiss c s).postPress = s.postPress := by
  unfold State.settleMiss; split <;> rfl
@[simp] theorem State.settleMiss_caseWindow (c : Nat) : (State.settleMiss c s).caseWindow = s.caseWindow := by
  unfold State.settleMiss; split <;> rfl
@[simp] theorem State.settleMiss_jacketWindow (c : Nat) : (State.settleMiss c s).jacketWindow = s.jacketWindow := by
  unfold State.settleMiss; split <;> rfl
@[simp] theorem State.settleMiss_bays (c : Nat) : (State.settleMiss c s).bays = s.bays := by
  unfold State.settleMiss; split <;> rfl
@[simp] theorem State.settleMiss_governor (c : Nat) : (State.settleMiss c s).governor = s.governor := by
  unfold State.settleMiss; split <;> rfl
@[simp] theorem State.settleMiss_reports (c : Nat) : (State.settleMiss c s).reports = s.reports := by
  unfold State.settleMiss; split <;> rfl
@[simp] theorem State.settleMiss_stations (c : Nat) : (State.settleMiss c s).stations = s.stations := by
  unfold State.settleMiss; split <;> rfl
@[simp] theorem State.settleMiss_supervisor (c : Nat) : (State.settleMiss c s).supervisor = s.supervisor := by
  unfold State.settleMiss; split <;> rfl
@[simp] theorem State.settleMiss_notices (c : Nat) : (State.settleMiss c s).notices = s.notices := by
  unfold State.settleMiss; split <;> rfl
@[simp] theorem State.settleMiss_profile (c : Nat) : (State.settleMiss c s).profile = s.profile := by
  unfold State.settleMiss; split <;> rfl
@[simp] theorem State.settleMiss_profileStatus (c : Nat) : (State.settleMiss c s).profileStatus = s.profileStatus := by
  unfold State.settleMiss; split <;> rfl
@[simp] theorem State.settleMiss_store (c : Nat) : (State.settleMiss c s).store = s.store := by
  unfold State.settleMiss; split <;> rfl
@[simp] theorem State.settleMiss_draws (c : Nat) : (State.settleMiss c s).draws = s.draws := by
  unfold State.settleMiss; split <;> rfl
@[simp] theorem State.settleMiss_pending (c : Nat) : (State.settleMiss c s).pending = s.pending := by
  unfold State.settleMiss; split <;> rfl

@[simp] theorem State.appendMiss_phase (c : Nat) : (State.appendMiss c s).phase = s.phase := by
  unfold State.appendMiss; split <;> simp
@[simp] theorem State.appendMiss_clock (c : Nat) : (State.appendMiss c s).clock = s.clock := by
  unfold State.appendMiss; split <;> simp
@[simp] theorem State.appendMiss_titles (c : Nat) : (State.appendMiss c s).titles = s.titles := by
  unfold State.appendMiss; split <;> simp
@[simp] theorem State.appendMiss_ranges (c : Nat) : (State.appendMiss c s).ranges = s.ranges := by
  unfold State.appendMiss; split <;> simp
@[simp] theorem State.appendMiss_volumes (c : Nat) : (State.appendMiss c s).volumes = s.volumes := by
  unfold State.appendMiss; split <;> simp
@[simp] theorem State.appendMiss_postPress (c : Nat) : (State.appendMiss c s).postPress = s.postPress := by
  unfold State.appendMiss; split <;> simp
@[simp] theorem State.appendMiss_caseWindow (c : Nat) : (State.appendMiss c s).caseWindow = s.caseWindow := by
  unfold State.appendMiss; split <;> simp
@[simp] theorem State.appendMiss_jacketWindow (c : Nat) : (State.appendMiss c s).jacketWindow = s.jacketWindow := by
  unfold State.appendMiss; split <;> simp
@[simp] theorem State.appendMiss_bays (c : Nat) : (State.appendMiss c s).bays = s.bays := by
  unfold State.appendMiss; split <;> simp
@[simp] theorem State.appendMiss_governor (c : Nat) : (State.appendMiss c s).governor = s.governor := by
  unfold State.appendMiss; split <;> simp
@[simp] theorem State.appendMiss_reports (c : Nat) : (State.appendMiss c s).reports = s.reports := by
  unfold State.appendMiss; split <;> simp
@[simp] theorem State.appendMiss_stations (c : Nat) : (State.appendMiss c s).stations = s.stations := by
  unfold State.appendMiss; split <;> simp
@[simp] theorem State.appendMiss_supervisor (c : Nat) : (State.appendMiss c s).supervisor = s.supervisor := by
  unfold State.appendMiss; split <;> simp
@[simp] theorem State.appendMiss_profile (c : Nat) : (State.appendMiss c s).profile = s.profile := by
  unfold State.appendMiss; split <;> simp
@[simp] theorem State.appendMiss_profileStatus (c : Nat) : (State.appendMiss c s).profileStatus = s.profileStatus := by
  unfold State.appendMiss; split <;> simp
@[simp] theorem State.appendMiss_store (c : Nat) : (State.appendMiss c s).store = s.store := by
  unfold State.appendMiss; split <;> simp
@[simp] theorem State.appendMiss_draws (c : Nat) : (State.appendMiss c s).draws = s.draws := by
  unfold State.appendMiss; split <;> simp
@[simp] theorem State.appendMiss_pending (c : Nat) : (State.appendMiss c s).pending = s.pending := by
  unfold State.appendMiss; split <;> simp

@[simp] theorem State.bind_phase (n : Nat) : (State.bind n s).phase = s.phase := by
  unfold State.bind; split
  · rfl
  · split <;> rfl
@[simp] theorem State.bind_clock (n : Nat) : (State.bind n s).clock = s.clock := by
  unfold State.bind; split
  · rfl
  · split <;> rfl
@[simp] theorem State.bind_missList (n : Nat) : (State.bind n s).missList = s.missList := by
  unfold State.bind; split
  · rfl
  · split <;> rfl
@[simp] theorem State.bind_ranges (n : Nat) : (State.bind n s).ranges = s.ranges := by
  unfold State.bind; split
  · rfl
  · split <;> rfl
@[simp] theorem State.bind_postPress (n : Nat) : (State.bind n s).postPress = s.postPress := by
  unfold State.bind; split
  · rfl
  · split <;> rfl
@[simp] theorem State.bind_caseWindow (n : Nat) : (State.bind n s).caseWindow = s.caseWindow := by
  unfold State.bind; split
  · rfl
  · split <;> rfl
@[simp] theorem State.bind_jacketWindow (n : Nat) : (State.bind n s).jacketWindow = s.jacketWindow := by
  unfold State.bind; split
  · rfl
  · split <;> rfl
@[simp] theorem State.bind_bays (n : Nat) : (State.bind n s).bays = s.bays := by
  unfold State.bind; split
  · rfl
  · split <;> rfl
@[simp] theorem State.bind_governor (n : Nat) : (State.bind n s).governor = s.governor := by
  unfold State.bind; split
  · rfl
  · split <;> rfl
@[simp] theorem State.bind_reports (n : Nat) : (State.bind n s).reports = s.reports := by
  unfold State.bind; split
  · rfl
  · split <;> rfl
@[simp] theorem State.bind_stations (n : Nat) : (State.bind n s).stations = s.stations := by
  unfold State.bind; split
  · rfl
  · split <;> rfl
@[simp] theorem State.bind_supervisor (n : Nat) : (State.bind n s).supervisor = s.supervisor := by
  unfold State.bind; split
  · rfl
  · split <;> rfl
@[simp] theorem State.bind_notices (n : Nat) : (State.bind n s).notices = s.notices := by
  unfold State.bind; split
  · rfl
  · split <;> rfl
@[simp] theorem State.bind_profile (n : Nat) : (State.bind n s).profile = s.profile := by
  unfold State.bind; split
  · rfl
  · split <;> rfl
@[simp] theorem State.bind_profileStatus (n : Nat) : (State.bind n s).profileStatus = s.profileStatus := by
  unfold State.bind; split
  · rfl
  · split <;> rfl
@[simp] theorem State.bind_store (n : Nat) : (State.bind n s).store = s.store := by
  unfold State.bind; split
  · rfl
  · split <;> rfl
@[simp] theorem State.bind_draws (n : Nat) : (State.bind n s).draws = s.draws := by
  unfold State.bind; split
  · rfl
  · split <;> rfl
@[simp] theorem State.bind_pending (n : Nat) : (State.bind n s).pending = s.pending := by
  unfold State.bind; split
  · rfl
  · split <;> rfl

@[simp] theorem State.countRemoval_phase (k : Removal) (c : Nat) : (State.countRemoval k c s).phase = s.phase := by
  unfold State.countRemoval; split
  · rfl
  · dsimp only; split <;> split <;> simp
@[simp] theorem State.countRemoval_clock (k : Removal) (c : Nat) : (State.countRemoval k c s).clock = s.clock := by
  unfold State.countRemoval; split
  · rfl
  · dsimp only; split <;> split <;> simp
@[simp] theorem State.countRemoval_missList (k : Removal) (c : Nat) : (State.countRemoval k c s).missList = s.missList := by
  unfold State.countRemoval; split
  · rfl
  · dsimp only; split <;> split <;> simp
@[simp] theorem State.countRemoval_ranges (k : Removal) (c : Nat) : (State.countRemoval k c s).ranges = s.ranges := by
  unfold State.countRemoval; split
  · rfl
  · dsimp only; split <;> split <;> simp
@[simp] theorem State.countRemoval_volumes (k : Removal) (c : Nat) : (State.countRemoval k c s).volumes = s.volumes := by
  unfold State.countRemoval; split
  · rfl
  · dsimp only; split <;> split <;> simp
@[simp] theorem State.countRemoval_postPress (k : Removal) (c : Nat) : (State.countRemoval k c s).postPress = s.postPress := by
  unfold State.countRemoval; split
  · rfl
  · dsimp only; split <;> split <;> simp
@[simp] theorem State.countRemoval_caseWindow (k : Removal) (c : Nat) : (State.countRemoval k c s).caseWindow = s.caseWindow := by
  unfold State.countRemoval; split
  · rfl
  · dsimp only; split <;> split <;> simp
@[simp] theorem State.countRemoval_jacketWindow (k : Removal) (c : Nat) : (State.countRemoval k c s).jacketWindow = s.jacketWindow := by
  unfold State.countRemoval; split
  · rfl
  · dsimp only; split <;> split <;> simp
@[simp] theorem State.countRemoval_bays (k : Removal) (c : Nat) : (State.countRemoval k c s).bays = s.bays := by
  unfold State.countRemoval; split
  · rfl
  · dsimp only; split <;> split <;> simp
@[simp] theorem State.countRemoval_governor (k : Removal) (c : Nat) : (State.countRemoval k c s).governor = s.governor := by
  unfold State.countRemoval; split
  · rfl
  · dsimp only; split <;> split <;> simp
@[simp] theorem State.countRemoval_reports (k : Removal) (c : Nat) : (State.countRemoval k c s).reports = s.reports := by
  unfold State.countRemoval; split
  · rfl
  · dsimp only; split <;> split <;> simp
@[simp] theorem State.countRemoval_stations (k : Removal) (c : Nat) : (State.countRemoval k c s).stations = s.stations := by
  unfold State.countRemoval; split
  · rfl
  · dsimp only; split <;> split <;> simp
@[simp] theorem State.countRemoval_supervisor (k : Removal) (c : Nat) : (State.countRemoval k c s).supervisor = s.supervisor := by
  unfold State.countRemoval; split
  · rfl
  · dsimp only; split <;> split <;> simp
@[simp] theorem State.countRemoval_profile (k : Removal) (c : Nat) : (State.countRemoval k c s).profile = s.profile := by
  unfold State.countRemoval; split
  · rfl
  · dsimp only; split <;> split <;> simp
@[simp] theorem State.countRemoval_profileStatus (k : Removal) (c : Nat) : (State.countRemoval k c s).profileStatus = s.profileStatus := by
  unfold State.countRemoval; split
  · rfl
  · dsimp only; split <;> split <;> simp
@[simp] theorem State.countRemoval_store (k : Removal) (c : Nat) : (State.countRemoval k c s).store = s.store := by
  unfold State.countRemoval; split
  · rfl
  · dsimp only; split <;> split <;> simp
@[simp] theorem State.countRemoval_draws (k : Removal) (c : Nat) : (State.countRemoval k c s).draws = s.draws := by
  unfold State.countRemoval; split
  · rfl
  · dsimp only; split <;> split <;> simp
@[simp] theorem State.countRemoval_pending (k : Removal) (c : Nat) : (State.countRemoval k c s).pending = s.pending := by
  unfold State.countRemoval; split
  · rfl
  · dsimp only; split <;> split <;> simp

@[simp] theorem State.removeVolume_phase (k : Removal) (v : Volume) : (State.removeVolume k v s).phase = s.phase := by
  unfold State.removeVolume; dsimp only; split <;> simp
@[simp] theorem State.removeVolume_clock (k : Removal) (v : Volume) : (State.removeVolume k v s).clock = s.clock := by
  unfold State.removeVolume; dsimp only; split <;> simp
@[simp] theorem State.removeVolume_ranges (k : Removal) (v : Volume) : (State.removeVolume k v s).ranges = s.ranges := by
  unfold State.removeVolume; dsimp only; split <;> simp
@[simp] theorem State.removeVolume_caseWindow (k : Removal) (v : Volume) : (State.removeVolume k v s).caseWindow = s.caseWindow := by
  unfold State.removeVolume; dsimp only; split <;> simp
@[simp] theorem State.removeVolume_jacketWindow (k : Removal) (v : Volume) : (State.removeVolume k v s).jacketWindow = s.jacketWindow := by
  unfold State.removeVolume; dsimp only; split <;> simp
@[simp] theorem State.removeVolume_bays (k : Removal) (v : Volume) : (State.removeVolume k v s).bays = s.bays := by
  unfold State.removeVolume; dsimp only; split <;> simp
@[simp] theorem State.removeVolume_reports (k : Removal) (v : Volume) : (State.removeVolume k v s).reports = s.reports := by
  unfold State.removeVolume; dsimp only; split <;> simp
@[simp] theorem State.removeVolume_stations (k : Removal) (v : Volume) : (State.removeVolume k v s).stations = s.stations := by
  unfold State.removeVolume; dsimp only; split <;> simp
@[simp] theorem State.removeVolume_supervisor (k : Removal) (v : Volume) : (State.removeVolume k v s).supervisor = s.supervisor := by
  unfold State.removeVolume; dsimp only; split <;> simp
@[simp] theorem State.removeVolume_profile (k : Removal) (v : Volume) : (State.removeVolume k v s).profile = s.profile := by
  unfold State.removeVolume; dsimp only; split <;> simp
@[simp] theorem State.removeVolume_profileStatus (k : Removal) (v : Volume) : (State.removeVolume k v s).profileStatus = s.profileStatus := by
  unfold State.removeVolume; dsimp only; split <;> simp
@[simp] theorem State.removeVolume_store (k : Removal) (v : Volume) : (State.removeVolume k v s).store = s.store := by
  unfold State.removeVolume; dsimp only; split <;> simp
@[simp] theorem State.removeVolume_draws (k : Removal) (v : Volume) : (State.removeVolume k v s).draws = s.draws := by
  unfold State.removeVolume; dsimp only; split <;> simp
@[simp] theorem State.removeVolume_pending (k : Removal) (v : Volume) : (State.removeVolume k v s).pending = s.pending := by
  unfold State.removeVolume; dsimp only; split <;> simp

@[simp] theorem State.goMissing_phase (n : Nat) : (State.goMissing n s).phase = s.phase := by
  simp [State.goMissing]
@[simp] theorem State.goMissing_clock (n : Nat) : (State.goMissing n s).clock = s.clock := by
  simp [State.goMissing]
@[simp] theorem State.goMissing_titles (n : Nat) : (State.goMissing n s).titles = s.titles := by
  simp [State.goMissing]
@[simp] theorem State.goMissing_missList (n : Nat) : (State.goMissing n s).missList = s.missList := by
  simp [State.goMissing]
@[simp] theorem State.goMissing_ranges (n : Nat) : (State.goMissing n s).ranges = s.ranges := by
  simp [State.goMissing]
@[simp] theorem State.goMissing_caseWindow (n : Nat) : (State.goMissing n s).caseWindow = s.caseWindow := by
  simp [State.goMissing]
@[simp] theorem State.goMissing_jacketWindow (n : Nat) : (State.goMissing n s).jacketWindow = s.jacketWindow := by
  simp [State.goMissing]
@[simp] theorem State.goMissing_bays (n : Nat) : (State.goMissing n s).bays = s.bays := by
  simp [State.goMissing]
@[simp] theorem State.goMissing_governor (n : Nat) : (State.goMissing n s).governor = s.governor := by
  simp [State.goMissing]
@[simp] theorem State.goMissing_reports (n : Nat) : (State.goMissing n s).reports = s.reports := by
  simp [State.goMissing]
@[simp] theorem State.goMissing_stations (n : Nat) : (State.goMissing n s).stations = s.stations := by
  simp [State.goMissing]
@[simp] theorem State.goMissing_supervisor (n : Nat) : (State.goMissing n s).supervisor = s.supervisor := by
  simp [State.goMissing]
@[simp] theorem State.goMissing_profile (n : Nat) : (State.goMissing n s).profile = s.profile := by
  simp [State.goMissing]
@[simp] theorem State.goMissing_profileStatus (n : Nat) : (State.goMissing n s).profileStatus = s.profileStatus := by
  simp [State.goMissing]
@[simp] theorem State.goMissing_store (n : Nat) : (State.goMissing n s).store = s.store := by
  simp [State.goMissing]
@[simp] theorem State.goMissing_draws (n : Nat) : (State.goMissing n s).draws = s.draws := by
  simp [State.goMissing]
@[simp] theorem State.goMissing_pending (n : Nat) : (State.goMissing n s).pending = s.pending := by
  simp [State.goMissing]

@[simp] theorem State.evict_phase (c : Option Nat) : (State.evict c s).phase = s.phase := by
  unfold State.evict; split <;> simp
@[simp] theorem State.evict_clock (c : Option Nat) : (State.evict c s).clock = s.clock := by
  unfold State.evict; split <;> simp
@[simp] theorem State.evict_missList (c : Option Nat) : (State.evict c s).missList = s.missList := by
  unfold State.evict; split <;> simp
@[simp] theorem State.evict_ranges (c : Option Nat) : (State.evict c s).ranges = s.ranges := by
  unfold State.evict; split <;> simp
@[simp] theorem State.evict_volumes (c : Option Nat) : (State.evict c s).volumes = s.volumes := by
  unfold State.evict; split <;> simp
@[simp] theorem State.evict_postPress (c : Option Nat) : (State.evict c s).postPress = s.postPress := by
  unfold State.evict; split <;> simp
@[simp] theorem State.evict_caseWindow (c : Option Nat) : (State.evict c s).caseWindow = s.caseWindow := by
  unfold State.evict; split <;> simp
@[simp] theorem State.evict_jacketWindow (c : Option Nat) : (State.evict c s).jacketWindow = s.jacketWindow := by
  unfold State.evict; split <;> simp
@[simp] theorem State.evict_bays (c : Option Nat) : (State.evict c s).bays = s.bays := by
  unfold State.evict; split <;> simp
@[simp] theorem State.evict_governor (c : Option Nat) : (State.evict c s).governor = s.governor := by
  unfold State.evict; split <;> simp
@[simp] theorem State.evict_reports (c : Option Nat) : (State.evict c s).reports = s.reports := by
  unfold State.evict; split <;> simp
@[simp] theorem State.evict_stations (c : Option Nat) : (State.evict c s).stations = s.stations := by
  unfold State.evict; split <;> simp
@[simp] theorem State.evict_supervisor (c : Option Nat) : (State.evict c s).supervisor = s.supervisor := by
  unfold State.evict; split <;> simp
@[simp] theorem State.evict_profile (c : Option Nat) : (State.evict c s).profile = s.profile := by
  unfold State.evict; split <;> simp
@[simp] theorem State.evict_profileStatus (c : Option Nat) : (State.evict c s).profileStatus = s.profileStatus := by
  unfold State.evict; split <;> simp
@[simp] theorem State.evict_store (c : Option Nat) : (State.evict c s).store = s.store := by
  unfold State.evict; split <;> simp
@[simp] theorem State.evict_draws (c : Option Nat) : (State.evict c s).draws = s.draws := by
  unfold State.evict; split <;> simp
@[simp] theorem State.evict_pending (c : Option Nat) : (State.evict c s).pending = s.pending := by
  unfold State.evict; split <;> simp

@[simp] theorem State.updBayVolume_phase (r : Bay) (f : Volume → Volume) : (State.updBayVolume r f s).phase = s.phase := by
  unfold State.updBayVolume; split <;> simp
@[simp] theorem State.updBayVolume_clock (r : Bay) (f : Volume → Volume) : (State.updBayVolume r f s).clock = s.clock := by
  unfold State.updBayVolume; split <;> simp
@[simp] theorem State.updBayVolume_titles (r : Bay) (f : Volume → Volume) : (State.updBayVolume r f s).titles = s.titles := by
  unfold State.updBayVolume; split <;> simp
@[simp] theorem State.updBayVolume_missList (r : Bay) (f : Volume → Volume) : (State.updBayVolume r f s).missList = s.missList := by
  unfold State.updBayVolume; split <;> simp
@[simp] theorem State.updBayVolume_ranges (r : Bay) (f : Volume → Volume) : (State.updBayVolume r f s).ranges = s.ranges := by
  unfold State.updBayVolume; split <;> simp
@[simp] theorem State.updBayVolume_postPress (r : Bay) (f : Volume → Volume) : (State.updBayVolume r f s).postPress = s.postPress := by
  unfold State.updBayVolume; split <;> simp
@[simp] theorem State.updBayVolume_caseWindow (r : Bay) (f : Volume → Volume) : (State.updBayVolume r f s).caseWindow = s.caseWindow := by
  unfold State.updBayVolume; split <;> simp
@[simp] theorem State.updBayVolume_jacketWindow (r : Bay) (f : Volume → Volume) : (State.updBayVolume r f s).jacketWindow = s.jacketWindow := by
  unfold State.updBayVolume; split <;> simp
@[simp] theorem State.updBayVolume_bays (r : Bay) (f : Volume → Volume) : (State.updBayVolume r f s).bays = s.bays := by
  unfold State.updBayVolume; split <;> simp
@[simp] theorem State.updBayVolume_governor (r : Bay) (f : Volume → Volume) : (State.updBayVolume r f s).governor = s.governor := by
  unfold State.updBayVolume; split <;> simp
@[simp] theorem State.updBayVolume_reports (r : Bay) (f : Volume → Volume) : (State.updBayVolume r f s).reports = s.reports := by
  unfold State.updBayVolume; split <;> simp
@[simp] theorem State.updBayVolume_stations (r : Bay) (f : Volume → Volume) : (State.updBayVolume r f s).stations = s.stations := by
  unfold State.updBayVolume; split <;> simp
@[simp] theorem State.updBayVolume_supervisor (r : Bay) (f : Volume → Volume) : (State.updBayVolume r f s).supervisor = s.supervisor := by
  unfold State.updBayVolume; split <;> simp
@[simp] theorem State.updBayVolume_notices (r : Bay) (f : Volume → Volume) : (State.updBayVolume r f s).notices = s.notices := by
  unfold State.updBayVolume; split <;> simp
@[simp] theorem State.updBayVolume_profile (r : Bay) (f : Volume → Volume) : (State.updBayVolume r f s).profile = s.profile := by
  unfold State.updBayVolume; split <;> simp
@[simp] theorem State.updBayVolume_profileStatus (r : Bay) (f : Volume → Volume) : (State.updBayVolume r f s).profileStatus = s.profileStatus := by
  unfold State.updBayVolume; split <;> simp
@[simp] theorem State.updBayVolume_store (r : Bay) (f : Volume → Volume) : (State.updBayVolume r f s).store = s.store := by
  unfold State.updBayVolume; split <;> simp
@[simp] theorem State.updBayVolume_draws (r : Bay) (f : Volume → Volume) : (State.updBayVolume r f s).draws = s.draws := by
  unfold State.updBayVolume; split <;> simp
@[simp] theorem State.updBayVolume_pending (r : Bay) (f : Volume → Volume) : (State.updBayVolume r f s).pending = s.pending := by
  unfold State.updBayVolume; split <;> simp

/-! ### Everything an operation can do -/

/-- R147: after the pace is computed anew, it is the lowest of the inputs. -/
@[simp] theorem State.repace_effective : s.repace.governor.effective = s.lowestPace := by
  unfold State.repace; split
  · next h => exact h.symm
  · rfl

/-- R147: computing the pace anew moves nothing else of the governor. -/
theorem State.repace_governor : s.repace.governor = { s.governor with effective := s.lowestPace } := by
  unfold State.repace; split
  · next h => rw [h]
  · rfl

/-- R157: the PACE notice fires exactly where the effective pace changes. -/
theorem State.repace_cases :
    (s.lowestPace = s.governor.effective ∧ s.repace = s) ∨
      (s.lowestPace ≠ s.governor.effective ∧
        s.repace = State.raise .pace { s with governor := { s.governor with effective := s.lowestPace } }) := by
  unfold State.repace; split
  · next h => exact .inl ⟨h, rfl⟩
  · next h => exact .inr ⟨h, rfl⟩

/-- R147: the lowest of the inputs does not read the effective pace or the notices. -/
@[simp] theorem State.repace_lowestPace : s.repace.lowestPace = s.lowestPace := by
  obtain ⟨-, h⟩ | ⟨-, h⟩ := s.repace_cases
  · rw [h]
  · rw [h]; rfl

/-- R181: a level condition that becomes true raises its kind, and one that was true raises nothing. -/
theorem State.levelRises_cases (k : Notice) (was : Bool) :
    (was = true ∧ s.levelRises k was = s) ∨ (was = false ∧ s.levelRises k was = s.raise k) := by
  cases was <;> simp [State.levelRises]

/-- R58: a removal drops the record, then counts it or settles the miss list, then computes the pace anew. -/
theorem State.removeVolume_cases (k : Removal) (v : Volume) :
    (v.bound.isSome = true ∧ s.removeVolume k v = ((s.dropVolume v.number).countRemoval k v.title).repace) ∨
      (v.bound.isSome = false ∧ s.removeVolume k v = ((s.dropVolume v.number).settleMiss v.title).repace) := by
  unfold State.removeVolume
  cases v.bound.isSome
  · exact .inr ⟨rfl, rfl⟩
  · exact .inl ⟨rfl, rfl⟩

/-- R58: the record is gone after its removal. -/
@[simp] theorem State.removeVolume_volumes (k : Removal) (v : Volume) :
    (s.removeVolume k v).volumes = s.volumes.filter fun u => u.number != v.number := by
  obtain ⟨-, h⟩ | ⟨-, h⟩ := s.removeVolume_cases k v <;> rw [h] <;> simp

/-- R58: the record has left the post-press sequence after its removal. -/
@[simp] theorem State.removeVolume_postPress (k : Removal) (v : Volume) :
    (s.removeVolume k v).postPress = s.postPress.filter fun m => m != v.number := by
  obtain ⟨-, h⟩ | ⟨-, h⟩ := s.removeVolume_cases k v <;> rw [h] <;> simp

/-- R19, R20: the state once a removal is counted at a title. -/
def State.counted (k : Removal) (t : Title) (c : Nat) (s : State) : State :=
  if reachesQuota k t then State.raise .quota (s.updTitle c fun t => { countOut k t with quotaReached := true })
  else s.updTitle c (countOut k)

/-- R19, R20, R15: a removal leaves the titles, or counts at its title, or counts and ends a retire. -/
theorem State.countRemoval_cases (k : Removal) (c : Nat) :
    (s.title? c = none ∧ s.countRemoval k c = s) ∨
      ∃ t, s.title? c = some t ∧
        (((t.retiring && t.volumeCount ≤ 1) = false ∧ s.countRemoval k c = s.counted k t c) ∨
          ((t.retiring && t.volumeCount ≤ 1) = true ∧
            s.countRemoval k c = State.raise .retired ((s.counted k t c).removeTitle c))) := by
  unfold State.countRemoval State.counted
  split
  · next h => exact .inl ⟨h, rfl⟩
  · next t h =>
    refine .inr ⟨t, h, ?_⟩
    cases t.retiring && t.volumeCount ≤ 1
    · exact .inl ⟨rfl, rfl⟩
    · exact .inr ⟨rfl, rfl⟩

/-- R18, R55: a bind changes the volume and its title, and touches the title, or finds none and changes nothing. -/
theorem State.bind_cases (n : Nat) :
    s.bind n = s ∨ ∃ v t, s.volume? n = some v ∧ s.title? v.title = some t ∧
      s.bind n = ((s.updVolume n (bindVolume s.profile t)).updTitle v.title countIn).touchTitle v.title := by
  unfold State.bind
  split
  · exact .inl rfl
  · next v hv =>
    split
    · exact .inl rfl
    · next t ht => exact .inr ⟨v, t, hv, ht, rfl⟩

/-- R21: a code joins the tail of the miss list, or stands on it already. -/
theorem State.appendMiss_cases (c : Nat) :
    (c ∈ s.missList ∧ s.appendMiss c = s) ∨ (c ∉ s.missList ∧ (s.appendMiss c).missList = s.missList ++ [c]) := by
  unfold State.appendMiss
  split
  · next h => exact .inl ⟨by simpa using h, rfl⟩
  · next h => exact .inr ⟨by simpa using h, by simp⟩

end Sys2Proof.Machine
end

