-- ==== Sys2Proof/Laws/Line.lean ====
section
/-! SUPPORT. What the operations of the line interface can do: each says once everything it answers. -/

namespace Sys2Proof.Machine

variable (s : State)

/-- R167: a frame answered at its arrival is carried out with its answer joining the output list, or discarded. -/
theorem State.immediately_cases (l : Line) (k : State → State × Answer) :
    (s.immediatePending l = true ∧ s.immediately l k = s) ∨
      (s.immediatePending l = false ∧ s.immediately l k = (k s).1.pushAnswer l (k s).2 false) := by
  unfold State.immediately
  cases s.immediatePending l
  · exact .inr ⟨rfl, rfl⟩
  · exact .inl ⟨rfl, rfl⟩

/-- R165 step 3, R179: a station frame is dropped while loading, taken to its rule, or refused ROLE. -/
theorem State.receive_cases (l : Line) (k : Kind) (body : State → State) :
    (s.phase = .loading ∧ s.receive l k body = s) ∨
      (s.phase ≠ .loading ∧ kindOwner k = some (s.roleOf l) ∧ s.receive l k body = body s) ∨
      (s.phase ≠ .loading ∧ kindOwner k ≠ some (s.roleOf l) ∧
        s.receive l k body = s.immediately l fun s => (s, refuse k .role)) := by
  unfold State.receive
  split
  · next h => exact .inl ⟨h, rfl⟩
  · next h =>
    split
    · next g => exact .inr (.inl ⟨h, g, rfl⟩)
    · next g => exact .inr (.inr ⟨h, g, rfl⟩)

/-- R168: a report is discarded, refused FORM, posted and answered ACCEPTED, or answered BUSY. -/
theorem State.postReport_cases (l : Line) (k : Kind) (good : Bool) (r : Report) :
    s.postReport l k good r = s ∨
      s.postReport l k good r = s.pushAnswer l (refuse k .form) false ∨
      (s.reports.length < 32 ∧
        s.postReport l k good r =
          State.pushAnswer l (acceptedAnswer k) false { s with reports := s.reports ++ [⟨l, r⟩] }) ∨
      s.postReport l k good r = s.pushAnswer l (busyAnswer k) false := by
  unfold State.postReport
  obtain ⟨-, h⟩ | ⟨-, h⟩ := s.immediately_cases l fun s =>
      if !good then (s, refuse k .form)
      else if s.reports.length < Config.reportQueueSize then
        ({ s with reports := s.reports ++ [⟨l, r⟩] }, acceptedAnswer k)
      else (s, busyAnswer k)
  · exact .inl h
  · rw [h]
    cases good
    · exact .inr (.inl rfl)
    · by_cases hl : s.reports.length < Config.reportQueueSize
      · refine .inr (.inr (.inl ⟨hl, ?_⟩)); simp [hl]
      · refine .inr (.inr (.inr ?_)); simp [hl]

/-- R175, R176, R179: a request is dropped while loading, answered in an EMPTY slot, or met by the state byte. -/
theorem State.request_cases (k : State → State × Answer) :
    (s.phase = .loading ∧ s.request k = s.shiftOut s.stateByte) ∨
      (s.phase ≠ .loading ∧ s.supervisor.slot = .empty ∧
        s.request k = (k ((s.shiftOut s.stateByte).setAnswerSlot .working)).1.setAnswerSlot
          (.holding (k ((s.shiftOut s.stateByte).setAnswerSlot .working)).2 0)) ∨
      (s.phase ≠ .loading ∧ s.supervisor.slot ≠ .empty ∧ s.request k = s.shiftOut s.stateByte) := by
  unfold State.request
  split
  · next h => exact .inl ⟨h, rfl⟩
  · next h =>
    split
    · next g => exact .inr (.inl ⟨h, g, rfl⟩)
    · next g => exact .inr (.inr ⟨h, g, rfl⟩)

/-- R170: a query evaluated stays HELD or is answered. -/
theorem State.settle_cases (l : Line) (h : HeldQuery) (r : Option (State × Answer)) :
    (r = none ∧ s.settle l h r = s.setSlot l (.held h)) ∨
      ∃ t a, r = some (t, a) ∧ s.settle l h r = t.answerSlot l a := by
  cases r with
  | none => exact .inl ⟨rfl, rfl⟩
  | some p => exact .inr ⟨p.1, p.2, rfl, rfl⟩

/-- R97, R110, R134, R144: where no query of a kind is HELD, its re-evaluation changes nothing. -/
@[simp] theorem State.reevaluate_none (k : Query → Bool) (h : s.heldQuery k = none) : s.reevaluate k = s := by
  simp [State.reevaluate, h]

/-- R97, R110, R134, R144: a re-evaluation changes nothing, or evaluates the query a slot holds. -/
theorem State.reevaluate_cases (k : Query → Bool) :
    (s.heldQuery k = none ∧ s.reevaluate k = s) ∨
      ∃ l h, s.heldQuery k = some (l, h) ∧ s.reevaluate k = s.settle l h (evalQuery h.query false s) := by
  unfold State.reevaluate
  split
  · next h => exact .inl ⟨h, rfl⟩
  · next l q h => exact .inr ⟨l, q, h, rfl⟩

/-- R144: a FOLD_CALL is evaluated again where the jacketer got a front, and nothing happens elsewhere. -/
theorem State.afterFront_cases (before : State) :
    s.afterFront before = s ∨ s.afterFront before = s.reevaluate Query.isFoldCall := by
  unfold State.afterFront
  split
  · exact .inr rfl
  · exact .inl rfl

/-- R97: a CASE_CALL is evaluated again where the caser got a front, and nothing happens elsewhere. -/
theorem State.afterAdmission_cases (before : State) :
    s.afterAdmission before = s ∨ s.afterAdmission before = s.reevaluate Query.isCaseCall := by
  unfold State.afterAdmission
  split
  · exact .inr rfl
  · exact .inl rfl

/-- R97: a CASE_CALL is evaluated again where a load bound the caser's front, and nothing happens elsewhere. -/
theorem State.afterLoad_cases (c : Nat) (before : State) :
    s.afterLoad c before = s ∨ s.afterLoad c before = s.reevaluate Query.isCaseCall := by
  unfold State.afterLoad
  split
  · exact .inl rfl
  · split
    · exact .inr rfl
    · exact .inl rfl

/-- R170: a query is evaluated, put BEHIND its line's reports, or answered BUSY. -/
theorem State.takeQuery_cases (l : Line) (k : Kind) (q : Query) (n : Nat) :
    (∃ h, h.query = q ∧ h.arrival = s.clock ∧ h.limit = s.profile.holdLimit ∧ n = 0 ∧
        s.takeQuery l k q n = s.evaluate l h false) ∨
      (∃ h, h.query = q ∧ h.arrival = s.clock ∧ h.limit = s.profile.holdLimit ∧ n ≠ 0 ∧
        s.takeQuery l k q n = s.setSlot l (.behind h n)) ∨
      s.takeQuery l k q n = s.immediately l fun s => (s, busyAnswer k) := by
  unfold State.takeQuery
  split
  · by_cases hn : n = 0
    · exact .inl ⟨⟨q, s.clock, s.profile.holdLimit⟩, rfl, rfl, rfl, hn, by simp [hn]⟩
    · exact .inr (.inl ⟨⟨q, s.clock, s.profile.holdLimit⟩, rfl, rfl, rfl, hn, by simp [hn]⟩)
  · exact .inr (.inr rfl)

/-- R170: a report applied leaves the slot of its line, brings its query nearer, or has it evaluated. -/
theorem State.reportApplied_cases (l : Line) :
    s.reportApplied l = s ∨
      ∃ h n, (s.station l).slot = .behind h n ∧
        (s.reportApplied l = s.evaluate l h false ∨ s.reportApplied l = s.setSlot l (.behind h (n - 1))) := by
  unfold State.reportApplied
  split
  · next h n g =>
    refine .inr ⟨h, n, g, ?_⟩
    split
    · exact .inl rfl
    · exact .inr rfl
  · exact .inl rfl

/-- R168: an application takes the head of the queue with its effect, or does not occur. -/
theorem State.applyHead_cases (effect : Report → Option (State → State)) :
    s.applyHead effect = s ∨
      ∃ p rest f, s.reports = p :: rest ∧ effect p.report = some f ∧
        s.applyHead effect = (f { s with reports := rest }).reportApplied p.line := by
  unfold State.applyHead
  split
  · exact .inl rfl
  · next p rest g =>
    split
    · exact .inl rfl
    · next f hf => exact .inr ⟨p, rest, f, g, hf, rfl⟩

/-- R156: a change of the effective pace releases nothing, or re-evaluates the held queries it lets go on. -/
theorem State.release_cases (old new : Pace) :
    s.release old new = s ∨ s.release old new = s.reevaluate Query.isCaseCall ∨
      s.release old new = (s.reevaluate Query.isNextMove).reevaluate Query.isFoldCall ∨
      s.release old new =
        ((s.reevaluate Query.isCaseCall).reevaluate Query.isNextMove).reevaluate Query.isFoldCall := by
  unfold State.release
  dsimp only
  split <;> split
  · exact .inr (.inr (.inr rfl))
  · exact .inr (.inr (.inl rfl))
  · exact .inr (.inl rfl)
  · exact .inl rfl

/-! ### The evaluations -/

/-- R109: a NEXT_MOVE is held, answered WAIT, or makes the arbiter's UNLOAD or LOAD. -/
theorem evalNextMove_cases (last : Bool) :
    (evalNextMove last s = none ∧ last = false) ∨
      (evalNextMove last s = some (s, moveWaitAnswer) ∧ last = true) ∨
      (∃ t b, s.unloadCandidate = some (t, b) ∧ evalNextMove last s = some (unloadBay b s)) ∨
      (∃ v b, s.loadCandidate = some (v, b) ∧ evalNextMove last s = some (loadVolume v b s)) := by
  unfold evalNextMove
  split
  · next t b v vb hu hl =>
    split
    · exact .inr (.inr (.inl ⟨t, b, hu, rfl⟩))
    · exact .inr (.inr (.inr ⟨v, vb, hl, rfl⟩))
  · next t b hu hl => exact .inr (.inr (.inl ⟨t, b, hu, rfl⟩))
  · next v vb hu hl => exact .inr (.inr (.inr ⟨v, vb, hl, rfl⟩))
  · cases last
    · exact .inl ⟨rfl, rfl⟩
    · exact .inr (.inl ⟨rfl, rfl⟩)

/-- R89: a CASE_CALL is held, answered WAIT without a count, or about the caser's front: diverted, counted or given a
case. -/
theorem evalCaseCall_cases (last : Bool) :
    evalCaseCall last s = none ∨
      (∃ n, evalCaseCall last s = some (s, caseWaitAnswer n)) ∨
      ∃ v, s.caserFront = some v ∧
        ((∃ r, evalCaseCall last s = some (divertAtCaser v r s)) ∨
          (∃ r, evalCaseCall last s = some (caseWaitCounted v r s)) ∨
          (v.state ≠ .awaitTitle ∧ ∃ k e, s.caseMatchFor v = some (k, e) ∧
            evalCaseCall last s = some (takeCase v k e.tag s))) := by
  unfold evalCaseCall
  split
  · cases last
    · exact .inl rfl
    · exact .inr (.inl ⟨none, rfl⟩)
  · next v hv =>
    split
    · cases last
      · exact .inl rfl
      · exact .inr (.inl ⟨some v.number, rfl⟩)
    · split
      · exact .inr (.inr ⟨v, hv, .inl ⟨_, rfl⟩⟩)
      · split
        · cases last
          · exact .inl rfl
          · exact .inr (.inr ⟨v, hv, .inr (.inl ⟨_, rfl⟩)⟩)
        · next hs =>
          split
          · next k e hm => exact .inr (.inr ⟨v, hv, .inr (.inr ⟨hs, k, e, hm, rfl⟩)⟩)
          · split
            · cases last
              · exact .inl rfl
              · exact .inr (.inr ⟨v, hv, .inr (.inl ⟨_, rfl⟩)⟩)
            · exact .inr (.inr ⟨v, hv, .inl ⟨_, rfl⟩⟩)

/-- R129: a GAUGE is held or answered WAIT for an UNLOADING volume, finds no piece, or takes a volume. -/
theorem evalGauge_cases (tag : Option Tag) (raw : Nat) (last : Bool) :
    evalGauge tag raw last s = none ∨
      evalGauge tag raw last s = some (s, gaugeWaitAnswer) ∨
      evalGauge tag raw last s = some (strayPiece s) ∨
      (∃ v vs, s.onOutfeed = v :: vs ∧
        evalGauge tag raw last s =
          some (takeAtOutfeed v raw 0 false (s.updVolume v.number fun u => { u with unverified := true }))) ∨
      (∃ t ahead v vs, tag = some t ∧ (s.onOutfeed.span fun v => v.caseTag != some t) = (ahead, v :: vs) ∧
        evalGauge tag raw last s = some (takeAtOutfeed v raw ahead.length false (skipToMissing ahead s))) ∨
      (∃ t v, tag = some t ∧ s.taggedIn .missing t = some v ∧
        evalGauge tag raw last s = some (takeAtOutfeed v raw 0 true s)) := by
  unfold evalGauge
  split
  · split
    · next v vs h => exact .inr (.inr (.inr (.inl ⟨v, vs, h, rfl⟩)))
    · exact .inr (.inr (.inl rfl))
  · next t =>
    split
    · next ahead v vs h => exact .inr (.inr (.inr (.inr (.inl ⟨t, ahead, v, vs, rfl, h, rfl⟩))))
    · split
      · next v h => exact .inr (.inr (.inr (.inr (.inr ⟨t, v, rfl, h, rfl⟩))))
      · split
        · cases last
          · exact .inl rfl
          · exact .inr (.inl rfl)
        · exact .inr (.inr (.inl rfl))

/-- R139: a FOLD_CALL is held, answered WAIT without a count, or about the jacketer's front: plain, folded or bare at
a match, counted, or bare without a jacket. -/
theorem evalFoldCall_cases (last : Bool) :
    evalFoldCall last s = none ∨
      (∃ n, evalFoldCall last s = some (s, foldWaitAnswer n)) ∨
      ∃ v, s.jacketerFront = some v ∧
        (evalFoldCall last s = some (s.giveFinish v.number .plain, plainAnswer v.number) ∨
          (∃ t j k e, s.jacketOf v = some (t, j) ∧ evalFoldCall last s = some (foldAt v t.marry j k e s)) ∨
          evalFoldCall last s = some (foldWaitCounted v s) ∨
          evalFoldCall last s = some (bareDelivery v 0 .noJacket s.jacketWindow s)) := by
  unfold evalFoldCall
  split
  · cases last
    · exact .inl rfl
    · exact .inr (.inl ⟨none, rfl⟩)
  · next v hv =>
    split
    · cases last
      · exact .inl rfl
      · exact .inr (.inl ⟨some v.number, rfl⟩)
    · split
      · exact .inr (.inr ⟨v, hv, .inl rfl⟩)
      · next t j hj =>
        split
        · exact .inr (.inr ⟨v, hv, .inr (.inl ⟨t, j, _, _, hj, rfl⟩)⟩)
        · split
          · cases last
            · exact .inl rfl
            · exact .inr (.inr ⟨v, hv, .inr (.inr (.inl rfl))⟩)
          · exact .inr (.inr ⟨v, hv, .inr (.inr (.inr rfl))⟩)

/-- R48: an ENTRY waits, is diverted, or admits its block with the number of a free slot and a title that is resident
and not RETIRING, or absent with room on the miss list. -/
theorem evalEntry_cases (serial raw : Nat) :
    evalEntry serial raw s = (s, entryWaitAnswer) ∨
      (∃ r, evalEntry serial raw s = divertBlock r s) ∨
      ∃ n e i, s.fill < 64 ∧ s.freeVolumeSlot = some n ∧ (s.volumes.any fun v => v.serial == serial) = false ∧
        s.rangeFor serial = some (e, i) ∧
        ((∃ t, s.title? e.code = some t ∧ t.retiring = false) ∨
          (s.title? e.code = none ∧ (s.missList.length < 8 ∨ e.code ∈ s.missList))) ∧
        evalEntry serial raw s =
          (admitBlock n serial raw e.code (unitNumber e serial) s, admitAnswer n) := by
  unfold evalEntry
  split
  · exact .inl rfl
  · next hw =>
    have hf : s.fill < 64 := by
      have := not_or.mp hw; simpa [Config.volumeSlots] using this.2
    split
    · exact .inl rfl
    · next n hn =>
      split
      · exact .inr (.inl ⟨_, rfl⟩)
      · next hs =>
        split
        · exact .inr (.inl ⟨_, rfl⟩)
        · next e i he =>
          split
          · next t ht =>
            split
            · exact .inr (.inl ⟨_, rfl⟩)
            · next hr =>
              exact .inr (.inr ⟨n, e, i, hf, hn, by simpa using hs, he, .inl ⟨t, ht, by simpa using hr⟩, rfl⟩)
          · next ht =>
            split
            · exact .inr (.inl ⟨_, rfl⟩)
            · next hm =>
              refine .inr (.inr ⟨n, e, i, hf, hn, by simpa using hs, he, .inr ⟨ht, ?_⟩, rfl⟩)
              by_cases hc : s.missList.contains e.code
              · exact .inr (by simpa using hc)
              · exact .inl (by
                  have := (not_and.mp hm)
                  by_contra hlt
                  exact this (by simp only [Config.missListSize]; omega) hc)

/-! ### Transactions and the save -/

/-- R176: a transaction is no command, a write, a read, or one that is ignored. -/
theorem transactionCommand_cases (bytes : List Byte) :
    (bytes = [] ∧ transactionCommand bytes = none) ∨
      ∃ first rest, bytes = first :: rest ∧
        ((first = 0xA5#8 ∧ transactionCommand bytes = some (writeCommand rest)) ∨
          (first = 0x00#8 ∧ transactionCommand bytes = some (.answerRead rest.length)) ∨
          (first ≠ 0xA5#8 ∧ first ≠ 0x00#8 ∧ transactionCommand bytes = some (.answerRead 0))) := by
  cases bytes with
  | nil => exact .inl ⟨rfl, rfl⟩
  | cons first rest =>
    refine .inr ⟨first, rest, rfl, ?_⟩
    by_cases hw : first = 0xA5#8
    · exact .inl ⟨hw, by simp [transactionCommand, hw]⟩
    · by_cases hr : first = 0x00#8
      · exact .inr (.inl ⟨hr, by simp [transactionCommand, hr]⟩)
      · exact .inr (.inr ⟨hw, hr, by simp [transactionCommand, hw, hr]⟩)

/-- R162, R176: a write brings its first good frame, or is a BAD_FRAME where there is none. -/
theorem writeCommand_cases (rest : List Byte) :
    (huntFrames 0 (0xA5#8 :: rest) = [] ∧ writeCommand rest = .badFrame .supervisor (writeFault rest)) ∨
      ∃ f fs, huntFrames 0 (0xA5#8 :: rest) = f :: fs ∧ writeCommand rest = frameCommand .supervisor f := by
  unfold writeCommand
  split
  · next f fs h => exact .inr ⟨f, fs, h, rfl⟩
  · next h => exact .inl ⟨h, rfl⟩

/-- R188: a save is WRITING exactly when the save state carries an earlier marker. -/
theorem ProfileStatus.writing_iff (p : ProfileStatus) : p.writing = true ↔ ∃ m, p.save = .writing m := by
  unfold ProfileStatus.writing
  cases p.save <;> simp

/-- R188: the write that is going on ends with the store acknowledging the valid marker. -/
theorem execProfileSaveDone_cases :
    (s.profileStatus.save = .idle ∧ execProfileSaveDone s = .next s) ∨
      ∃ m, s.profileStatus.save = .writing m ∧
        execProfileSaveDone s = .next { s with
          store := ⟨validMarker, profileBytes s.profile⟩
          profileStatus := { s.profileStatus with save := .idle, lastSave := .done } } := by
  unfold execProfileSaveDone
  split
  · next h => exact .inl ⟨h, rfl⟩
  · next m h => exact .inr ⟨m, h, rfl⟩

/-- R188: the write that is going on ends with a failure after `n` acknowledged bytes. -/
theorem execProfileSaveFailed_cases (n : Nat) :
    (s.profileStatus.save = .idle ∧ execProfileSaveFailed n s = .next s) ∨
      ∃ m, s.profileStatus.save = .writing m ∧
        execProfileSaveFailed n s = .next (State.raise .profile { s with
          store := storeAfterFailure s.profile m s.store n
          profileStatus := { s.profileStatus with save := .idle, lastSave := .storeFailed } }) := by
  unfold execProfileSaveFailed
  split
  · next h => exact .inl ⟨h, rfl⟩
  · next m h => exact .inr ⟨m, h, rfl⟩

end Sys2Proof.Machine
end

