-- ==== Sys2Proof/Tests/Slice0.lean ====
section
/-! SUPPORT. Tests by hand calculation from the worked values of spec/, the refusals of the well-formedness check, and
for each statement with hypotheses a state that meets them, clause by clause, at the boundary of each range. -/

namespace Sys2Proof.Tests

open Sys2Proof.Machine

/-! ### Well-formedness: one ill-formed operand for each check -/

/-- The jacket part of the worked case (section 4.9). -/
def jacket : JacketPart := ⟨5400, 2700, 1560, 270, 15, 30, 700⟩

def geometry : GeometryGroup := ⟨0, 220, 25, some jacket⟩
def process : ProcessGroup := ⟨1, 60, 8, 0⟩

/-- Station messages and events. -/
def illFormedEvents : List Instr :=
  [.badFrame (.station 0) .selectRose, .badFrame .supervisor .framingFault, .badFrame .supervisor .byteGap,
   .frameRefused .supervisor 256 6 [0], .frameRefused .supervisor 0 256 [0], .frameRefused .supervisor 0 6 [],
   .frameRefused .supervisor 0 6 (List.replicate 39 0),
   .caseSeen 1 16777216 0, .caseSeen 1 1 16777216, .cased 1 256, .caseSpoiled 1 256, .bayClosed 2 256,
   .bayCleared 2 256, .bayFault 2 256, .jacketSeen 4 16777216 0, .jacketSeen 4 1 16777216, .delivered 4 256,
   .entry 0 4294967296 0, .entry 0 0 65536, .gauge 3 256 0 0 0, .gauge 3 1 16777216 0 0, .gauge 3 1 1 16777216 0,
   .gauge 3 1 1 1 65536, .profileSaveFailed 58]

/-- Supervisor requests. -/
def illFormedRequests : List Instr :=
  [.titleLoad 16777216 geometry process, .titleLoad 1 { geometry with marry := 256 } process,
   .titleLoad 1 { geometry with tNom := 65536 } process, .titleLoad 1 { geometry with board := 256 } process,
   .titleLoad 1 geometry { process with band := 256 }, .titleLoad 1 geometry { process with dwellBase := 65536 },
   .titleLoad 1 geometry { process with dwellSlope := 256 }, .titleLoad 1 geometry { process with quota := 65536 },
   .titleLoad 1 { geometry with jacket := some { jacket with sheet := 65536 } } process,
   .titleLoad 1 { geometry with jacket := some { jacket with centre := 65536 } } process,
   .titleLoad 1 { geometry with jacket := some { jacket with panel := 65536 } } process,
   .titleLoad 1 { geometry with jacket := some { jacket with spine := 65536 } } process,
   .titleLoad 1 { geometry with jacket := some { jacket with wrap := 256 } } process,
   .titleLoad 1 { geometry with jacket := some { jacket with growth := 256 } } process,
   .titleLoad 1 { geometry with jacket := some { jacket with minFlap := 65536 } } process,
   .titleAmend 1 none none, .titleAmend 16777216 (some process) none, .titleAmend 1 (some { process with band := 256 }) none,
   .titleAmend 1 none (some { geometry with marry := 256 }), .titleHold 16777216, .titleFree 16777216,
   .titleRetire 16777216, .titleRead 16777216, .rangeSet 256 0 4 1 0, .rangeSet 0 4294967296 4 1 0,
   .rangeSet 0 0 256 1 0, .rangeSet 0 0 4 16777216 0, .rangeSet 0 0 4 1 16777216, .rangeClear 256,
   .rangeRead (.index 256), .rangeRead (.serial 4294967296), .volumeRead 256, .volumeFind 4294967296,
   .volumeWriteoff 256, .bayService 256 0, .bayService 0 256, .bayRead (.bay 256), .paceSet 256, .noticeEnable 65536,
   .noticeClear 65536, .profileSet 4 [], .profileSet 3 (List.replicate 9 0), .profileRead 256]

theorem test_wellFormed_refuses_events : illFormedEvents.all (fun i => !i.wellFormed) = true := by decide

theorem test_wellFormed_refuses_requests : illFormedRequests.all (fun i => !i.wellFormed) = true := by decide

theorem test_wellFormed_accepts_greatest :
    [Instr.caseSeen 1 16777215 16777215, .entry 0 4294967295 65535, .titleLoad 1 geometry process,
      .profileSet 3 (List.replicate 10 0), .profileSaveFailed 57].all Instr.wellFormed = true := by decide

/-! ### Frames (worked values of section 9.1) -/

theorem test_frame_cased :
    streamCommands 1 [0xA5#8, 0x03#8, 0x11#8, 0x02#8, 0x11#8, 0xD9#8] = [.cased 1 17] := by decide

theorem test_frame_entry :
    streamCommands 0
      [0xA5#8, 0x08#8, 0x20#8, 0x01#8, 0x10#8, 0x00#8, 0x12#8, 0x00#8, 0xBF#8, 0x01#8, 0xF5#8]
        = [.entry 0 0x00120010 447] := by decide

/-- PACE_SET of RUN by hand: 3 + 0x50 + 6 + 4 = 93, so the check is 163. What follows it in the write is ignored. -/
theorem test_frame_paceSet :
    transactionCommand [0xA5#8, 0x03#8, 0x50#8, 0x06#8, 0x04#8, 0xA3#8, 0xA5#8, 0x03#8, 0x50#8, 0x06#8, 0x00#8, 0xA7#8]
      = some (.paceSet 4) := by decide

/-- A damaged check byte: the CASED is not taken, and the frame behind it is. -/
theorem test_frame_damaged :
    streamCommands 1 [0xA5#8, 0x03#8, 0x11#8, 0x02#8, 0x11#8, 0xD8#8, 0xA5#8, 0x03#8, 0x11#8, 0x02#8, 0x11#8,
      0xD9#8] = [.cased 1 17] := by decide

theorem test_answer_accepted :
    frameBytes 0x80 2 (partBody ⟨0x11, .accepted, none, []⟩ 0)
      = [0xA5#8, 0x06#8, 0x80#8, 0x02#8, 0x11#8, 0x03#8, 0x00#8, 0x80#8, 0xE4#8] := by decide

theorem test_answer_admit :
    frameBytes 0x80 1 (partBody ⟨0x20, .admits, none, [17#8]⟩ 0)
      = [0xA5#8, 0x07#8, 0x80#8, 0x01#8, 0x20#8, 0x10#8, 0x00#8, 0x80#8, 0x11#8, 0xB7#8] := by decide

/-- The kinds of transaction (R176): a read of two bytes behind the state byte, an ignored one, and bad writes: a
length below 3, a frame cut short by the chip select, and a damaged check. -/
theorem test_transactions :
    [[0x00#8, 0x00#8, 0x00#8], [0x7F#8, 0xA5#8], [0xA5#8, 0x02#8], [0xA5#8, 0x03#8, 0x50#8, 0x06#8, 0x04#8], [0xA5#8],
      [0xA5#8, 0x03#8, 0x50#8, 0x06#8, 0x04#8, 0xA4#8]].map transactionCommand
        = [some (.answerRead 2), some (.answerRead 0), some (.badFrame .supervisor .badLength),
           some (.badFrame .supervisor .selectRose), some (.badFrame .supervisor .selectRose),
           some (.badFrame .supervisor .badCheck)] := by decide

/-- A write whose first frame is bad and that holds a good frame behind it or inside it (the model's choice: log
entry 32). -/
theorem test_write_bad_then_good :
    [[0xA5#8, 0x02#8, 0xA5#8, 0x03#8, 0x50#8, 0x06#8, 0x04#8, 0xA3#8],
      [0xA5#8, 0x05#8, 0xA5#8, 0x03#8, 0x50#8, 0x06#8, 0x04#8, 0xA3#8]].map transactionCommand
        = [some (.paceSet 4), some (.paceSet 4)] := by decide

theorem test_tableWord_none : decodeTableWord 32 0x11 = none := by decide

/-! ### Gauge arithmetic (worked values of file 04) -/

theorem test_rounding :
    [roundHalfEven 447 2, roundHalfEven 445 2, roundHalfEven 3 2, roundHalfEven 1 2, roundHalfEven 1792 10,
      roundHalfEven 1785 10, roundHalfEven 1795 10, roundHalfEven 1195 4, roundHalfEven 90 4]
        = [224, 222, 2, 0, 179, 178, 180, 299, 22] := by decide

theorem test_fit_standard :
    ([407, 409, 410, 453, 454, 469, 470].map fun r => (convertReading r, fitClass .standard (convertReading r) 220))
      = [(204, .reject), (204, .reject), (205, .marginal), (226, .fit), (227, .marginal), (234, .marginal),
         (235, .marginal)] := by decide

theorem test_dwell :
    [dwellOf 60 8 224 false, dwellOf 60 8 224 true, dwellOf 60 8 220 true, dwellOf 500 5 441 true, dwellOf 500 5 443 true,
      dwellOf 10 2 40 false, dwellOf 10 2 40 true, dwellOf 0 0 300 true, dwellOf 600 50 1023 false]
        = [239, 299, 295, 900, 900, 20, 22, 20, 900] := by decide

theorem test_foldPlan :
    [224, 225, 262, 274, 285, 286].map (foldPlan jacket)
      = [.fails .spineGrowth, .passes 1020 2580 2820 4380, .passes 1002 2562 2839 4399, .passes 996 2556 2845 4405,
         .passes 990 2550 2850 4410, .fails .spineGrowth] := by decide

theorem test_foldPlan_flaps :
    [264, 265, 266, 300].map (foldPlan { jacket with minFlap := 1000 })
      = [.passes 1001 2561 2840 4400, .passes 1000 2560 2840 4400, .fails .flapShort, .fails .spineGrowth]
    ∧ [262, 270].map (foldPlan { jacket with centre := 2400 })
      = [.passes 702 2262 2539 4099, .fails .flapShort] := by decide

/-! ### Small states -/

/-- After the profile load, at a requested and effective pace of RUN. -/
def running : State :=
  { State.reset with
    phase := .running, governor := { Governor.reset with requested := .run, effective := .run } }

/-- The same at STOP. -/
def stopped : State := { State.reset with phase := .running }

/-- The map of the worked lookup (section 2.2). -/
def lookupMap : List RangeEntry :=
  [⟨true, 0x00120000, 16, 4501, 0⟩, ⟨true, 0x00123400, 8, 7021, 1⟩, ⟨true, 0x00123480, 7, 9213, 500⟩,
   ⟨true, 0x00500000, 20, 5100, 16777200⟩] ++ List.replicate 28 RangeEntry.cleared

/-- The run title of the worked case, with `n` volumes. -/
def book (n : Nat) : Title where
  slot := 0
  code := 4501
  marry := .run
  tNom := 220
  board := 25
  jacket := some jacket
  band := .standard
  dwellBase := 60
  dwellSlope := 8
  quota := 0
  hold := false
  retiring := false
  volumeCount := n
  admitted := n
  outJacketed := 0
  outBare := 0
  diverted := 0
  cleared := 0
  quotaReached := false

/-- The volume of the worked case in a state. -/
def copy (n : Nat) (st : VolumeState) : Volume :=
  { newVolume n (0x00120010 + n) 4501 (16 + n) 447 with
    state := st, bound := some ⟨224, .fit, 274, none⟩, caseTag := some ⟨4501, n⟩ }

/-- RUN with the map, the title and these volumes. -/
def line (vs : List Volume) : State :=
  { running with ranges := lookupMap, titles := [book vs.length], volumes := vs }

/-- A report stands at the head of the queue. -/
def posted (l : Line) (r : Report) (s : State) : State := { s with reports := [⟨l, r⟩] }

/-- A bay holds a record. -/
def withBay (b : Nat) (r : Bay) (s : State) : State := { s with bays := s.bays.set b r }

/-- A query stands held on a line. -/
def holding (l : Line) (q : Query) (s : State) : State := s.setSlot l (.held ⟨q, 0, 200⟩)

/-! ### Lookups and requests (worked values of file 02) -/

theorem test_lookup :
    [0x00120010, 0x00123410, 0x001234A5, 0x0012347F, 0x00500005, 0x00500012, 0x00130000].map (fun n =>
      ((line []).rangeFor n).map fun p => (p.1.code, p.2, unitNumber p.1 n))
        = [some (4501, 0, 16), some (7021, 1, 17), some (9213, 2, 537), some (7021, 1, 128), some (5100, 3, 16777205),
           some (5100, 3, 2), none] := by decide

/-- The part of an answer that follows its header, at the supervisor port. -/
def answerOf : Host.Outcome State Fault Refusal → Option (AnswerCode × Option Reason × List Byte)
  | .next t => match t.supervisor.slot with
    | .holding a _ => some (a.code, a.reason, a.fields)
    | _ => none
  | _ => none

/-- The codes, reasons and fields in the output list of a line. -/
def outputOf (l : Line) : Host.Outcome State Fault Refusal → List (AnswerCode × Option Reason × List Byte)
  | .next t => (t.station l).output.map fun e => (e.answer.code, e.answer.reason, e.answer.fields)
  | _ => []

theorem test_rangeSet_aligns :
    answerOf (exec (.rangeSet 4 0x00123456 12 3875 0) (line [])) = some (.okAligned, none, [0x00#8, 0x30#8, 0x12#8, 0x00#8])
      := by decide

theorem test_rangeSet_overlap :
    answerOf (exec (.rangeSet 5 0x00123ABC 12 6012 0)
      { line [] with ranges := lookupMap.set 4 ⟨true, 0x00123000, 12, 3875, 0⟩ })
        = some (.refused, some .overlap, [4#8]) := by decide

/-! ### The worked case, event by event (section 4.9) -/

theorem test_entry_admits :
    outputOf 0 (exec (.entry 0 0x00120010 447) (line [])) = [(.admits, none, [0#8])] := by decide

theorem test_caseCall_takes :
    outputOf 1 (exec (.caseCall 1) { line [{ copy 0 .awaitCase with caseTag := none }] with
      caseWindow := [⟨⟨4501, 7⟩, false⟩] })
        = [(.take, none, [0#8, 0#8, 0x95#8, 0x11#8, 0#8, 7#8, 0#8, 0#8])] := by decide

theorem test_nextMove_loads :
    outputOf 2 (exec (.nextMove 2) (line [copy 0 .cased]))
      = [(.load, none, [0#8, 4#8, 239#8, 0#8, 0x95#8, 0x11#8, 0#8, 0#8, 0#8, 0#8])] := by decide

theorem test_gauge_passes :
    outputOf 3 (exec (.gauge 3 1 4501 0 524) { line [copy 0 .onOutfeed] with postPress := [0] })
      = [(.pass, none, [0#8, 0#8, 0#8])] := by decide

/-- f1 1002 is 0x03EA, f2 2562 is 0x0A02, f3 2839 is 0x0B17 and f4 4399 is 0x112F. -/
theorem test_foldCall_folds :
    outputOf 4 (exec (.foldCall 4) { line [{ copy 0 .awaitJacket with tOut := some 262 }] with
      postPress := [0], jacketWindow := [⟨⟨4501, 0⟩, false⟩] })
        = [(.fold, none, [0#8, 0#8, 0xEA#8, 0x03#8, 0x02#8, 0x0A#8, 0x17#8, 0x0B#8, 0x2F#8, 0x11#8, 0x95#8, 0x11#8, 0#8,
            0#8, 0#8, 0#8])] := by decide

theorem test_dwellExpiry_keeps_time :
    (match exec (.dwellExpiry 4) (withBay 4 ⟨.closed, some 0, none, some 0, some 23900, none, false, false⟩
        (line [copy 0 .pressing])) with
      | .next t => (t.clock, (t.bays[4]?).bind Bay.expiry, (t.bays[4]?).bind Bay.overdwellDue)
      | _ => (0, none, none)) = (23900, some 23900, some 53900) := by decide

/-! ### Profile and notices (worked values of file 10) -/

theorem test_profileLoad_defaults :
    (match exec (.profileLoad true) State.reset with
      | .next t => (decide (t.profile = Profile.default), t.profileStatus.defaulted)
      | _ => (false, 0)) = (true, 43) := by decide

/-- R102 and the worked save of section 10.6: the case skip limit 5 is unchanged by the device reset, and the load
that finds an invalid marker takes the default 3. -/
theorem test_deviceReset_keeps_limits :
    (match exec .deviceReset { State.reset with profile := { Profile.default with caseSkip := 5, waitLimit := 9 } } with
      | .next t => (t.profile.caseSkip, t.profile.waitLimit,
        match exec (.profileLoad true) t with
        | .next u => (u.profile.caseSkip, u.profile.waitLimit)
        | _ => (0, 0))
      | _ => (0, 0, 0, 0)) = (5, 9, 3, 16) := by decide

/-- Stored copies by hand: lines 1 and 2 both INFEED; group A at 200 to 160; group D at 1201 to
1130, out of its range and out of order as stored. -/
theorem test_stored_profile_judged :
    (let stored := profileBytes Profile.default
     [stored, stored.set 1 1#8, stored.set 21 200#8, (stored.set 33 0xB1#8).set 34 0x04#8].map fun c =>
        (decide (profileFromCopy c = Profile.default), defaultedFields c))
      = [(true, 0), (true, 5), (true, 2), (true, 2)] := by decide

theorem test_profileBytes_length : (profileBytes Profile.default).length = 56 := by decide

/-- Pace RUN drives lines 110, and the guard latch STOP drives 000 (section 8.1). -/
theorem test_guard_drives_stop :
    (match exec (.guardOpenChange true) (line []) with
      | .next t => (running.paceLines, t.paceLines, t.governor.guardLatch)
      | _ => (0, 0, false)) = (0b110#3, 0b000#3, true) := by decide

/-- R183: a level flag comes back at a clear while its condition stands. -/
theorem test_noticeClear_level :
    answerOf (exec (.noticeClear 0x3FFF) { running with notices := ⟨0x1008#14, 0x1008#14⟩, volumes := [copy 0 .missing] })
      = some (.ok, none, [0x00#8, 0x10#8]) := by decide

/-! ### States that meet the hypotheses of the statements, clause by clause -/

/-- The profile saved or being saved. -/
def saving (s : State) : State := { s with profileStatus := { s.profileStatus with save := .writing 0x5A#8 } }

/-- An answer made at a frame's arrival stands unsent on a line. -/
def unsent (l : Line) (s : State) : State := s.pushAnswer l ⟨0x11, .accepted, none, []⟩ false

/-- A closed bay with volume 0. -/
def closedBay : Bay := ⟨.closed, some 0, none, some 0, some 23900, none, false, false⟩

/-- Bay 4 of the worked case in each occupied state. -/
def bayOf (st : BayState) : Bay := ⟨st, some 0, none, none, some 23900, none, false, false⟩

theorem default_legal : Profile.default.Legal := ⟨rfl, rfl, rfl, by decide⟩

theorem line_bounded : (line [copy 0 .missing, copy 63 .awaitCase]).TablesBounded :=
  ⟨by decide, by decide, by decide, by decide, by decide, by decide, by decide, by decide, by decide, by decide,
    by decide, by decide, by decide, by decide, by decide⟩

theorem line_counted : (line [copy 0 .missing, copy 63 .awaitCase]).TitlesCounted :=
  ⟨by decide, by decide, by decide, by decide, by decide, by decide⟩

/-- Queues, save and load. -/
theorem witness_queue_and_profile :
    ({ State.reset with pending := [.deviceReset, .missRead] } : State).pending = [.deviceReset, .missRead]
      ∧ State.reset.pending = [] ∧ (saving running).profileStatus.writing = true
      ∧ running.profileStatus.writing = false ∧ State.reset.phase = .loading ∧ State.reset.store.marker ≠ 0x5A#8
      ∧ ({ State.reset with store := ⟨0x5A#8, profileBytes Profile.default⟩ } : State).store.marker = 0x5A#8
      ∧ (saving running).profileStatus.save = .writing 0x5A#8 ∧ running.Awaiting
      ∧ State.reset.notices.enables = 0#14 ∧ (profileBytes Profile.default).length = 56
      ∧ (saving stopped).profile.Legal := by
  refine ⟨?_, ?_, ?_, ?_, ?_, ?_, ?_, ?_, ⟨?_, ?_⟩, ?_, ?_, default_legal⟩ <;> decide

theorem witness_ProfileSetAndReadSections :
    (saving stopped).Awaiting ∧ stopped.Awaiting ∧ running.Awaiting ∧ running.governor.effective ≠ .stop
      ∧ (∃ r ∈ (withBay 4 closedBay stopped).bays, r.state = .closed) ∧ (∀ r ∈ stopped.bays, r.state ≠ .closed)
      ∧ (∀ n ≤ 3, (sectionBytes Profile.default n).length = sectionLength n)
      ∧ (∀ n ≤ 3, sectionAcceptable n (readFields (sectionWidths n) (sectionBytes Profile.default n)) = true)
      ∧ sectionAcceptable 3 (readFields (sectionWidths 3) (List.replicate 10 0#8)) = false
      ∧ (∀ n ≤ 3, (sectionValues Profile.default n).length = [5, 26, 4, 8].getD n 0) := by
  simp only [State.Awaiting]; decide

theorem witness_BlocksTakeUpNewProfile :
    stopped.stations.length = 5 ∧ stopped.NoneHeld Query.isCaseCall ∧ stopped.NoneHeld Query.isNextMove
      ∧ stopped.NoneHeld Query.isFoldCall := by
  simp only [State.NoneHeld]; decide

theorem witness_FramesCarryCommands :
    (∃ b, messageOf (.caseSeen 1 16777215 0) = some ⟨.station 1, .caseSeen, b⟩)
      ∧ (Instr.caseSeen 1 16777215 0).wellFormed = true ∧ (∀ b ∈ [0x00#8, 0xA4#8, 0xFF#8], b ≠ 0xA5#8)
      ∧ (∃ b, messageOf (.titleLoad 16777215 geometry process) = some ⟨.supervisor, .titleLoad, b⟩)
      ∧ (Instr.titleLoad 16777215 geometry process).wellFormed = true
      ∧ huntFrames 0 [0xA5#8, 0x02#8, 0xA5#8, 0x03#8, 0x50#8, 0x06#8, 0x04#8, 0xA3#8] = [⟨0x50, 6, [0x04#8]⟩]
      ∧ huntFrames 0 [0xA5#8, 0x03#8, 0x50#8, 0x06#8, 0x04#8] = [] ∧ huntFrames 0 [0xA5#8] = []
      ∧ huntFrames 0 [0xA5#8, 0x28#8, 0x00#8] = [] ∧ huntFrames 0 [0xA5#8, 0x29#8, 0x00#8] = []
      ∧ (0x01#8 : Byte) ≠ 0xA5#8 ∧ (0x01#8 : Byte) ≠ 0x00#8 :=
  ⟨⟨_, rfl⟩, by decide, by decide, ⟨_, rfl⟩, by decide, by decide, by decide, by decide, by decide, by decide,
    by decide⟩

theorem witness_BadAndRefusedFrames :
    (0x02#8).toNat < 3 ∧ 40 < (0x29#8).toNat ∧ [0x11#8, 0x02#8, 0x11#8].length < (0x03#8).toNat + 1
      ∧ (3 + (([0x11#8, 0x02#8, 0x11#8, 0xD8#8].take 4).map BitVec.toNat).sum) % 256 ≠ 0
      ∧ running.phase = .running ∧ running.Free 1 ∧ running.Awaiting ∧ kindOfByte 0x18 = none
      ∧ kindOfByte 0x11 = some .cased ∧ 6 ≠ portTag (.station 1) ∧ kindOwner .cased ≠ some (running.roleOf 0)
      ∧ 1 = portTag (.station 0) ∧ kindOwner .cased = some (running.roleOf 1)
      ∧ commandOf (.station 1) .cased [17#8, 0#8] = none ∧ kindOwner .paceSet = none
      ∧ commandOf .supervisor .paceSet [4#8, 0#8] = none ∧ State.reset.phase = .loading ∧ ¬ (unsent 1 running).Free 1
      ∧ running.taken.phase = .running ∧ running.taken.supervisor.slot = .working
      ∧ (running.answered ⟨0x45, .ok, none, []⟩).supervisor.slot = .holding ⟨0x45, .ok, none, []⟩ 0 := by
  simp only [State.Free, State.Awaiting]; decide

theorem witness_AnswersLeaveTheirPorts :
    (running.station 1).output = [] ∧ ((unsent 1 running).station 1).output = [⟨⟨0x11, .accepted, none, []⟩, false⟩]
      ∧ ({ running with supervisor := ⟨.holding ⟨0x46, .ok, none, List.replicate 35 0⟩ 1, []⟩ } : State).supervisor.slot
          = .holding ⟨0x46, .ok, none, List.replicate 35 0⟩ 1
      ∧ partCount ⟨0x46, .ok, none, List.replicate 35 0⟩ = 2 ∧ partCount ⟨0x46, .ok, none, List.replicate 34 0⟩ = 1
      ∧ running.phase = .running ∧ running.supervisor.slot = .empty ∧ State.reset.phase = .loading
      ∧ running.taken.phase = .running ∧ running.taken.supervisor.slot = .working := by
  decide

theorem witness_RequestsMeetBusySlot :
    ∃ m, messageOf .statusRead = some m ∧ m.port = .supervisor ∧ running.phase = .running
      ∧ running.taken.supervisor.slot = .working ∧ (running.answered ⟨0x45, .ok, none, []⟩).supervisor.slot
        = .holding ⟨0x45, .ok, none, []⟩ 0 ∧ State.reset.phase = .loading :=
  ⟨_, rfl, rfl, rfl, rfl, rfl, rfl⟩

theorem witness_StationMessagesTurnedAway :
    (∃ b, messageOf (.cased 0 63) = some ⟨.station 0, .cased, b⟩) ∧ State.reset.phase = .loading
      ∧ running.phase = .running ∧ kindOwner .cased ≠ some (running.roleOf 0) ∧ running.Free 0
      ∧ ¬ (unsent 0 running).Free 0 ∧ (∃ b, messageOf (.cased 1 64) = some ⟨.station 1, .cased, b⟩)
      ∧ running.Hears 1 .cased ∧ goodForm (.cased 1 64) = false ∧ running.Free 1 ∧ ¬ (unsent 1 running).Free 1 := by
  simp only [State.Free, State.Hears]
  exact ⟨⟨_, rfl⟩, by decide, by decide, by decide, by decide, by decide, ⟨_, rfl⟩, by decide, by decide, by decide,
    by decide⟩

/-- The report queue with `n` reports of line 2. -/
def queued (n : Nat) (s : State) : State := { s with reports := List.replicate n ⟨1, .cased 0⟩ }

theorem witness_ReportsAndQueriesArrive :
    reportOf (.cased 1 63) = some (1, .cased, .cased 63) ∧ goodForm (.cased 1 63) = true
      ∧ (queued 31 running).Hears 1 .cased ∧ (queued 31 running).Free 1 ∧ (queued 31 running).reports.length < 32
      ∧ (queued 32 running).Free 1 ∧ 32 ≤ (queued 32 running).reports.length ∧ ¬ (unsent 1 running).Free 1
      ∧ queryOf (.caseCall 1) = some (1, .caseCall) ∧ goodForm (.caseCall 1) = true
      ∧ (holding 1 .caseCall running).Hears 1 .caseCall ∧ ((holding 1 .caseCall running).station 1).slot ≠ .empty
      ∧ (holding 1 .caseCall running).Free 1 ∧ ((queued 1 running).station 1).slot = .empty
      ∧ 0 < (queued 1 running).postedBy 1 ∧ (queued 1 running).Hears 1 .caseCall
      ∧ 0 < (posted 2 (.bayFault 15) running).postedBy 2 ∧ (posted 2 (.bayFault 15) running).Hears 2 .nextMove
      ∧ 0 < (posted 4 (.delivered 63) running).postedBy 4 ∧ (posted 4 (.delivered 63) running).Hears 4 .foldCall := by
  simp only [State.Free, State.Hears]; decide

theorem witness_reports_of_pieces_and_volumes :
    (posted 1 (.caseSeen ⟨4501, 1048575⟩) { running with caseWindow := List.replicate 7 ⟨⟨1, 1⟩, false⟩ }).caseWindow.length
        < 8
      ∧ 8 ≤ (posted 1 (.caseSeen ⟨4501, 0⟩) { running with
          caseWindow := List.replicate 8 ⟨⟨1, 1⟩, false⟩ }).caseWindow.length
      ∧ (posted 4 (.jacketSeen ⟨4501, 0⟩) { running with
          jacketWindow := List.replicate 3 ⟨⟨1, 1⟩, false⟩ }).jacketWindow.length < 4
      ∧ 4 ≤ (posted 4 (.jacketSeen ⟨4501, 1⟩) { running with
          jacketWindow := List.replicate 4 ⟨⟨1, 1⟩, false⟩ }).jacketWindow.length
      ∧ (posted 1 (.cased 63) (line [copy 63 .casing])).volume? 63 = some (copy 63 .casing)
      ∧ (posted 1 (.caseSpoiled 63) (line [copy 63 .casing])).volume? 63 = some (copy 63 .casing)
      ∧ (posted 4 (.delivered 0) (line [copy 0 .jacketing])).volume? 0 = some (copy 0 .jacketing)
      ∧ (copy 63 .casing).state = .casing ∧ (copy 0 .jacketing).state = .jacketing := by
  decide

theorem witness_MisreportsChangeNothing :
    (∀ v, (posted 1 (.cased 0) (line [])).volume? 0 = some v → v.state ≠ .casing)
      ∧ (∀ v, (posted 1 (.caseSpoiled 63) (line [copy 63 .cased])).volume? 63 = some v → v.state ≠ .casing)
      ∧ (∀ v, (posted 4 (.delivered 63) (line [copy 63 .cased])).volume? 63 = some v → v.state ≠ .jacketing)
      ∧ (∀ r : Bay, (posted 2 (.bayClosed 15) running).bays[15]? = some r → r.state ≠ .reserved)
      ∧ (∀ r : Bay, (posted 2 (.bayCleared 0) running).bays[0]? = some r → r.state ≠ .emptying)
      ∧ (posted 1 (.cased 0) (line [])).NoneBehind 1 ∧ (posted 2 (.bayClosed 15) running).NoneBehind 2 := by
  refine ⟨fun v h => ?_, fun v h => ?_, fun v h => ?_, fun r h => ?_, fun r h => ?_, fun h n e => ?_, fun h n e => ?_⟩
  iterate 5 · cases h <;> decide
  all_goals cases e

/-- A report about bay 15 stands at the head of the queue, and the bay with this record holds volume 0. -/
def bayReport (r : Report) (b : Bay) (v : Volume) : State :=
  posted 2 r (withBay 15 b { line [{ v with bay := some 15, dwell := some 900 }] with postPress := [0] })

/-- The state in which a BAY_CLOSED of bay 15 finds it reserved. -/
def closing : State := bayReport (.bayClosed 15) (bayOf .reserved) (copy 0 .loading)

/-- The state in which a BAY_CLEARED of bay 15 finds it emptying, with these flags pending. -/
def emptied (fault service : Bool) : State :=
  bayReport (.bayCleared 15) { bayOf .emptying with faultPending := fault, servicePending := service }
    (copy 0 .unloading)

theorem witness_BaysClosedAndCleared :
    closing.reports = [⟨2, .bayClosed 15⟩] ∧ closing.bays[15]? = some (bayOf .reserved)
      ∧ (bayOf .reserved).state = .reserved ∧ (bayOf .reserved).volume = some 0
      ∧ closing.volume? 0 = some { copy 0 .loading with bay := some 15, dwell := some 900 }
      ∧ { copy 0 .loading with bay := some 15, dwell := some 900 }.dwell = some 900
      ∧ ∀ p ∈ [(true, false), (false, true), (false, false)],
        let r : Bay := { bayOf .emptying with faultPending := p.1, servicePending := p.2 }
        (emptied p.1 p.2).reports = [⟨2, .bayCleared 15⟩] ∧ (emptied p.1 p.2).bays[15]? = some r ∧ r.state = .emptying
          ∧ r.volume = some 0 ∧ (emptied p.1 p.2).volume? 0
            = some { copy 0 .unloading with bay := some 15, dwell := some 900 } := by
  decide

theorem witness_BayFaultFitsEveryState :
    (posted 2 (.bayFault 15) running).bays[15]? = some Bay.reset ∧ Bay.reset.state = .vacant
      ∧ (withBay 15 (bayOf .reserved) running).bays[15]? = some (bayOf .reserved) ∧ (bayOf .reserved).volume = some 0
      ∧ (withBay 15 closedBay running).bays[15]? = some closedBay ∧ closedBay.volume = some 0
      ∧ (withBay 0 (bayOf .done) running).bays[0]? = some (bayOf .done)
      ∧ (withBay 0 (Bay.unoccupied .faulted none) running).bays[0]? = some (Bay.unoccupied .faulted none) := by
  decide

theorem witness_QueriesBehindReportsComeUp :
    ((running.setSlot 1 (.behind ⟨.caseCall, 0, 200⟩ 1)).station 1).slot = .behind ⟨.caseCall, 0, 200⟩ 1
      ∧ ((running.setSlot 1 (.behind ⟨.caseCall, 0, 200⟩ 2)).station 1).slot = .behind ⟨.caseCall, 0, 200⟩ 2
      ∧ (∀ h n, (running.station 1).slot ≠ .behind h n) ∧ running.NoneHeld Query.isCaseCall
      ∧ (holding 1 .caseCall running).heldQuery Query.isCaseCall = some (1, ⟨.caseCall, 0, 200⟩)
      ∧ evalQuery .caseCall false (holding 1 .caseCall running) = none
      ∧ (evalQuery .caseCall false (holding 1 .caseCall { line [copy 0 .awaitCase] with
          caseWindow := [⟨⟨4501, 7⟩, false⟩] })).isSome = true
      ∧ running.Asks 1 .caseCall ∧ running.Asks 2 .nextMove ∧ running.Asks 4 .foldCall
      ∧ running.Hears 3 .gauge ∧ (running.station 3).slot = .empty := by
  simp only [State.NoneHeld, State.Asks, State.Hears]
  refine ⟨by decide, by decide, fun h n => ?_, by decide, by decide, by decide, by decide, by decide, by decide,
    by decide, by decide, by decide⟩
  simp [running, State.station, State.reset, StationLine.reset]

/-- A line with its last volume of a RETIRING title. -/
def lastOfTitle : State := { line [copy 0 .missing] with titles := [{ book 1 with retiring := true }] }

/-- A block whose title is absent. -/
def waiting : Volume := newVolume 0 0x00123400 7021 1 447

/-- The last delivery of a RETIRING title brings it to its run quota of 1. -/
def lastOfQuota : State := { line [copy 0 .jacketing] with titles := [{ book 1 with retiring := true, quota := 1 }] }

theorem witness_RemovalIsCounted :
    (line [copy 0 .missing, copy 63 .awaitCase]).volume? 63 = some (copy 63 .awaitCase)
      ∧ (copy 63 .awaitCase).bound.isSome = true ∧ (copy 63 .awaitCase).title = 4501
      ∧ (line [copy 0 .missing, copy 63 .awaitCase]).title? 4501 = some (book 2)
      ∧ lastOfTitle.volume? 0 = some (copy 0 .missing) ∧ lastOfTitle.title? 4501 = some { book 1 with retiring := true }
      ∧ lastOfQuota.volume? 0 = some (copy 0 .jacketing)
      ∧ lastOfQuota.title? 4501 = some { book 1 with retiring := true, quota := 1 }
      ∧ ({ line [copy 0 .missing] with titles := [] } : State).title? 4501 = none
      ∧ (line [waiting]).volume? 0 = some waiting ∧ waiting.bound.isSome = false := by
  decide

/-- The last waiting volume of a code takes the code off the miss list, and one of two does not (R21). -/
theorem test_removal_settles_miss :
    ((State.removeVolume .diverted waiting { line [waiting] with missList := [7021, 7] }).missList,
      (State.removeVolume .diverted waiting
        { line [waiting, { waiting with number := 1 }] with missList := [7021, 7] }).missList)
      = ([7], [7021, 7]) := by decide

/-- QUOTA and RETIRED fire for the same delivery (R15): bits 1 and 2. -/
theorem test_last_delivery_quota_and_retired :
    (State.removeVolume .outJacketed (copy 0 .jacketing) { lastOfQuota with notices := ⟨0x3FFF#14, 0#14⟩ }).notices.flags
      &&& 0x006#14 = 0x006#14 := by decide

theorem lastOfTitle_bounded : lastOfTitle.TablesBounded :=
  ⟨by decide, by decide, by decide, by decide, by decide, by decide, by decide, by decide, by decide, by decide,
    by decide, by decide, by decide, by decide, by decide⟩

theorem witness_EntryTurnsBlocksAway :
    running.Hears 0 .entry ∧ (running.station 0).slot = .empty ∧ stopped.Halted ∧ ¬ (line [copy 0 .cased]).Halted
      ∧ 64 ≤ (line (List.replicate 64 (copy 0 .cased))).volumes.length ∧ (line [copy 0 .cased]).volumes.length < 64
      ∧ (∃ v ∈ (line [copy 0 .cased]).volumes, v.serial = 0x00120010)
      ∧ (∀ v ∈ (line [copy 0 .cased]).volumes, v.serial ≠ 0x00130000)
      ∧ (∀ e ∈ (line [copy 0 .cased]).ranges,
          e.enabled = true → 0x00130000 / 2 ^ e.sizeClass ≠ e.base / 2 ^ e.sizeClass)
      ∧ (∀ v ∈ (line [copy 0 .cased]).volumes, v.serial ≠ 0x0012FFFF)
      ∧ (line [copy 0 .cased]).rangeFor 0x0012FFFF = some (⟨true, 0x00120000, 16, 4501, 0⟩, 0)
      ∧ lastOfTitle.title? 4501 = some { book 1 with retiring := true }
      ∧ (line []).rangeFor 0x00123400 = some (⟨true, 0x00123400, 8, 7021, 1⟩, 1) ∧ (line []).title? 7021 = none
      ∧ 7021 ∉ [1, 2, 3, 4, 5, 6, 7, 8] ∧ 8 ≤ ({ line [] with missList := [1, 2, 3, 4, 5, 6, 7, 8] } : State).missList.length
      := by
  simp only [State.Hears, State.Halted]; decide

theorem witness_EntryAdmitsBlocks :
    (line [copy 0 .cased]).Hears 0 .entry ∧ ((line [copy 0 .cased]).station 0).slot = .empty
      ∧ ¬ (line [copy 0 .cased]).Halted ∧ (line [copy 0 .cased]).volumes.length < 64
      ∧ (∀ v ∈ (line [copy 0 .cased]).volumes, v.serial ≠ 0x0012FFFF)
      ∧ (line [copy 0 .cased]).rangeFor 0x0012FFFF = some (⟨true, 0x00120000, 16, 4501, 0⟩, 0)
      ∧ (line [copy 0 .cased]).title? 4501 = some (book 1) ∧ (book 1).retiring = false
      ∧ (∀ v ∈ (line [copy 0 .cased]).volumes, v.number ≠ 1)
      ∧ (∀ m < 1, ∃ v ∈ (line [copy 0 .cased]).volumes, v.number = m)
      ∧ (∀ v ∈ (line [copy 0 .cased]).volumes, v.serial ≠ 0x00123400)
      ∧ (line [copy 0 .cased]).rangeFor 0x00123400 = some (⟨true, 0x00123400, 8, 7021, 1⟩, 1)
      ∧ (line [copy 0 .cased]).title? 7021 = none ∧ (line [copy 0 .cased]).missList.length < 8 := by
  simp only [State.Hears, State.Halted]; decide

/-- The front volume with a divert mark. -/
def marked (m : DivertMark) : Volume := { copy 0 .awaitCase with bound := some ⟨204, .reject, 254, some m⟩ }

/-- A case window of `n` other cases before one that fits. -/
def caseBehind (n : Nat) : State :=
  { line [copy 0 .awaitCase] with caseWindow := List.replicate n ⟨⟨1, 1⟩, false⟩ ++ [⟨⟨4501, 7⟩, false⟩] }

theorem witness_CaseCallMarriesFrontVolume :
    running.Asks 1 .caseCall ∧ running.caserFront = none
      ∧ (line [marked .misfit]).Asks 1 .caseCall ∧ (line [marked .misfit]).caserFront = some (marked .misfit)
      ∧ ¬ (line [marked .misfit]).Halted ∧ (marked .misfit).bound.bind BindPart.mark = some .misfit
      ∧ (line [waiting]).caserFront = some waiting ∧ waiting.bound.bind BindPart.mark = none
      ∧ waiting.state = .awaitTitle
      ∧ (caseBehind 3).Asks 1 .caseCall ∧ (caseBehind 3).caserFront = some (copy 0 .awaitCase)
      ∧ (caseBehind 3).title? 4501 = some (book 1) ∧ (caseBehind 3).caseWindow[3]? = some ⟨⟨4501, 7⟩, false⟩
      ∧ (∀ e' ∈ (caseBehind 3).caseWindow.take 3, e'.tag.title ≠ 4501) ∧ 3 ≤ (caseBehind 3).profile.caseSkip
      ∧ (caseBehind 4).Asks 1 .caseCall ∧ (∀ e' ∈ (caseBehind 4).caseWindow.take 4, e'.tag.title ≠ 4501)
      ∧ (caseBehind 6).caseWindow.length < 8 ∧ 8 ≤ (caseBehind 7).caseWindow.length := by
  simp only [State.Asks, State.Hears, State.Halted]; decide

/-- Bay 4 done since the start, the other bays as given. -/
def done4 (clock : Nat) (vs : List Volume) : State := { withBay 4 (bayOf .done) (line vs) with clock := clock }

theorem witness_ArbiterCandidates_and_NextMove :
    running.Asks 2 .nextMove ∧ running.unloadCandidate = none ∧ running.loadCandidate = none
      ∧ stopped.governor.effective = .stop ∧ running.governor.effective ≠ .stop
      ∧ (done4 26900 []).Asks 2 .nextMove ∧ (done4 26900 []).unloadCandidate = some (23900, 4)
      ∧ (done4 26900 []).bays[4]? = some (bayOf .done) ∧ (bayOf .done).volume = some 0
      ∧ (done4 26900 []).loadCandidate = none
      ∧ (done4 26900 [copy 1 .cased]).profile.unloadAge * 100 ≤ (done4 26900 [copy 1 .cased]).clock - 23900
      ∧ (done4 26899 [copy 1 .cased]).Asks 2 .nextMove
      ∧ (done4 26899 [copy 1 .cased]).loadCandidate = some (copy 1 .cased, 5)
      ∧ ((done4 26899 [copy 1 .cased]).volumes.find? fun v => v.state == .cased) = some (copy 1 .cased)
      ∧ (copy 1 .cased).bound = some ⟨224, .fit, 274, none⟩ ∧ (copy 1 .cased).caseTag = some ⟨4501, 1⟩
      ∧ (done4 26899 [copy 1 .cased]).title? 4501 = some (book 1)
      ∧ (done4 26899 [copy 1 .cased]).clock - 23900 < (done4 26899 [copy 1 .cased]).profile.unloadAge * 100
      ∧ 2 ≤ (done4 26899 [copy 1 .cased]).vacantCount := by
  simp only [State.Asks, State.Hears]; decide

/-- Two volumes on the outfeed, front first. -/
def outfeed : State := { line [copy 0 .onOutfeed, copy 1 .onOutfeed] with postPress := [0, 1] }

theorem witness_GaugeTakesPieces :
    running.Hears 3 .gauge ∧ (running.station 3).slot = .empty ∧ running.onOutfeed = []
      ∧ outfeed.Hears 3 .gauge ∧ (outfeed.station 3).slot = .empty
      ∧ outfeed.onOutfeed = copy 0 .onOutfeed :: [copy 1 .onOutfeed]
      ∧ outfeed.onOutfeed = [copy 0 .onOutfeed] ++ copy 1 .onOutfeed :: []
      ∧ (copy 1 .onOutfeed).caseTag = some ⟨4501, 1⟩ ∧ (∀ u ∈ [copy 0 .onOutfeed], u.caseTag ≠ some ⟨4501, 1⟩)
      ∧ (∀ u ∈ (line [copy 0 .missing]).onOutfeed, u.caseTag ≠ some ⟨4501, 0⟩)
      ∧ ((line [copy 0 .missing]).volumes.find? fun v => v.state == .missing && v.caseTag == some ⟨4501, 0⟩)
        = some (copy 0 .missing)
      ∧ (∀ v ∈ (line [copy 0 .unloading]).volumes, v.state = .missing → v.caseTag ≠ some ⟨4501, 0⟩)
      ∧ (∃ v ∈ (line [copy 0 .unloading]).volumes, v.state = .unloading ∧ v.caseTag = some ⟨4501, 0⟩)
      ∧ (∀ v ∈ (line [copy 0 .unloading]).volumes, v.state = .unloading → v.caseTag ≠ some ⟨4501, 1048575⟩)
      ∧ (∀ u ∈ outfeed.volumes, u.number = 0 → u = copy 0 .onOutfeed) ∧ copy 0 .onOutfeed ∈ outfeed.volumes
      ∧ (copy 0 .onOutfeed).bound = some ⟨224, .fit, 274, none⟩ ∧ (copy 0 .onOutfeed).pressFault = false
      ∧ outfeed.jacketerFront = none ∧ ({ line [copy 0 .awaitJacket] with postPress := [0] } : State).jacketerFront ≠ none
      ∧ { copy 0 .onOutfeed with pressFault := true }.pressFault = true := by
  simp only [State.Hears]; decide

/-- The jacketer's front with a jacket window of `n` other jackets before one that fits. -/
def jacketBehind (n : Nat) (d : Nat) : State :=
  { line [{ copy 0 .awaitJacket with tOut := some d }] with
    postPress := [0], jacketWindow := List.replicate n ⟨⟨1, 1⟩, false⟩ ++ [⟨⟨4501, 0⟩, false⟩] }

theorem witness_FoldCallFindsJacket :
    running.Asks 4 .foldCall ∧ running.jacketerFront = none ∧ (jacketBehind 1 285).Asks 4 .foldCall
      ∧ (jacketBehind 1 285).jacketerFront = some { copy 0 .awaitJacket with tOut := some 285 }
      ∧ (jacketBehind 1 285).governor.effective ≠ .stop ∧ (jacketBehind 1 285).title? 4501 = some (book 1)
      ∧ { book 1 with jacket := none }.jacket = none ∧ (book 1).jacket = some jacket
      ∧ (jacketBehind 1 285).jacketWindow[1]? = some ⟨⟨4501, 0⟩, false⟩
      ∧ (∀ e' ∈ (jacketBehind 1 285).jacketWindow.take 1, e'.tag.title ≠ 4501)
      ∧ 1 ≤ (jacketBehind 1 285).profile.jacketSkip ∧ foldPlan jacket 285 = .passes 990 2550 2850 4410
      ∧ foldPlan jacket 286 = .fails .spineGrowth
      ∧ (∀ e' ∈ (jacketBehind 2 285).jacketWindow.take 2, e'.tag.title ≠ 4501)
      ∧ (jacketBehind 2 285).jacketWindow.length < 4 ∧ 4 ≤ (jacketBehind 3 285).jacketWindow.length := by
  simp only [State.Asks, State.Hears]; decide

theorem witness_HoldLimitAnswersQuery :
    ((running.setSlot 1 (.behind ⟨.caseCall, 0, 200⟩ 1)).station 1).slot = .behind ⟨.caseCall, 0, 200⟩ 1
      ∧ ((holding 2 .nextMove running).station 2).slot = .held ⟨.nextMove, 0, 200⟩
      ∧ (running.station 1).slot = .empty ∧ (holding 2 .nextMove running).unloadCandidate = none
      ∧ (holding 2 .nextMove running).loadCandidate = none
      ∧ ((holding 3 (.gauge (some ⟨4501, 0⟩) 524) (line [copy 0 .unloading])).station 3).slot
        = .held ⟨.gauge (some ⟨4501, 0⟩) 524, 0, 200⟩
      ∧ (holding 1 .caseCall running).caserFront = none ∧ (holding 4 .foldCall running).jacketerFront = none
      ∧ (holding 1 .caseCall (line [waiting])).caserFront = some waiting
      ∧ ¬ (holding 1 .caseCall (line [waiting])).Halted
      ∧ waiting.caseWaits + 1 < (line [waiting]).profile.waitLimit
      ∧ (line [waiting]).profile.waitLimit ≤ { waiting with caseWaits := 15 }.caseWaits + 1
      ∧ (line [copy 0 .awaitCase]).caseMatchFor (copy 0 .awaitCase) = none
      ∧ (line [copy 0 .awaitCase]).caseWindow.length < 8
      ∧ (jacketBehind 2 285).jacketOf (copy 0 .awaitJacket) = some (book 1, jacket)
      ∧ usableMatch (jacketMatches (book 1) (copy 0 .awaitJacket)) 1 (jacketBehind 2 285).jacketWindow = none
      ∧ (jacketBehind 2 285).jacketWindow.length < 4 := by
  simp only [State.Halted]; decide

theorem witness_TimersExpire :
    (withBay 15 closedBay running).bays[15]? = some closedBay ∧ closedBay.volume = some 0 ∧ closedBay.state = .closed
      ∧ closedBay.expiry = some 23900
      ∧ (withBay 0 { bayOf .done with overdwellDue := some 53900 } running).bays[0]?
        = some { bayOf .done with overdwellDue := some 53900 }
      ∧ (bayOf .done).state ≠ .closed ∧ closedBay.overdwellDue = none ∧ running.governor.idleDue = none
      ∧ running.governor.stepDown = .run ∧ running.governor.recovery = .idle
      ∧ { running.governor with idleDue := some 20000, stepDown := .ease }.stepDown ≠ .run
      ∧ { running.governor with recovery := .slow 2000 }.recovery = .slow 2000
      ∧ { running.governor with recovery := .fast 10000 }.recovery = .fast 10000 := by
  decide

theorem witness_ConditionLinesReachGovernor :
    running.phase = .running ∧ running.governor.lines = ⟨true, false, false, false⟩ ∧ running.profile.glueLatch = true
      ∧ { Profile.default with glueLatch := false }.glueLatch = false ∧ State.reset.phase = .loading
      ∧ { running.governor with lines := ⟨false, true, true, true⟩ }.lines = ⟨false, true, true, true⟩ := by
  decide

/-- An effective pace beside a request. -/
def atPace (effective requested : Pace) : State :=
  { running with governor := { running.governor with effective := effective, requested := requested } }

theorem witness_PaceIsLowestInput :
    running.lowestPace = running.governor.effective ∧ (atPace .run .stop).lowestPace ≠ .run
      ∧ paceRank (atPace .run .stop).lowestPace < paceRank .run
      ∧ (atPace .hold .crawl).governor.effective = .hold ∧ 3 ≤ paceRank (atPace .hold .crawl).lowestPace
      ∧ (atPace .stop .hold).governor.effective = .stop ∧ (atPace .stop .hold).lowestPace = .hold
      ∧ (atPace .stop .crawl).governor.effective = .stop ∧ 3 ≤ paceRank (atPace .stop .crawl).lowestPace
      ∧ 3 ≤ paceRank (atPace .crawl .run).governor.effective := by
  decide

/-- A full title table: codes 1 to 48, the last as given. -/
def fullTable (last : Bool) : State :=
  { running with titles := (List.range 48).map fun n =>
      { book 0 with slot := n, code := n + 1, hold := last || n != 47 } }

theorem fullTable_slots : (fullTable false).titles.map Title.slot = List.range 48 := rfl

theorem fullTable_codes : (fullTable false).titles.map Title.code = (List.range 48).map (· + 1) := rfl

theorem fullTable_bounded : (fullTable false).TablesBounded := by
  refine ⟨by decide, by decide, ?_, ?_, by decide, by decide, by decide, by decide, by decide, by decide, by decide,
    by decide, by decide, by decide, by decide⟩
  · rw [fullTable_slots]
    exact List.nodup_range
  · rw [fullTable_codes]
    exact List.nodup_range.map fun a b h => by simpa using h

theorem witness_TitleLoad :
    running.Awaiting ∧ (∃ t ∈ (line []).titles, t.code = 4501) ∧ (∀ t ∈ (line []).titles, t.code ≠ 16777215)
      ∧ geometryInRange { geometry with board := 51 } = false ∧ geometryInRange geometry = true
      ∧ nominalPlanPasses { geometry with jacket := some { jacket with minFlap := 1200 } } = false
      ∧ nominalPlanPasses geometry = true
      ∧ (∀ n < 48, ∃ t ∈ (fullTable true).titles, t.slot = n)
      ∧ (∀ t ∈ (fullTable true).titles, titleState t ≠ .dormant) ∧ (fullTable true).Awaiting
      ∧ (∀ t ∈ (line []).titles, t.slot ≠ 1) ∧ (∀ m < 1, ∃ t ∈ (line []).titles, t.slot = m) ∧ (line []).Awaiting
      ∧ (fullTable false).Awaiting ∧ (∀ t ∈ (fullTable false).titles, t.code ≠ 16777215)
      ∧ (∀ m < 48, ∃ t ∈ (fullTable false).titles, t.slot = m)
      ∧ (fullTable false).titles = (fullTable false).titles.take 47
          ++ { book 0 with slot := 47, code := 48, hold := false } :: []
      ∧ titleState { book 0 with slot := 47, code := 48, hold := false } = .dormant := by
  simp only [State.Awaiting]; decide

theorem witness_title_requests :
    (line []).Awaiting ∧ (some process).isSome = true ∧ (some geometry).isSome = true
      ∧ (∀ t ∈ (line []).titles, t.code ≠ 16777215) ∧ (line [copy 0 .cased]).title? 4501 = some (book 1)
      ∧ (line [copy 0 .cased]).Awaiting ∧ 0 < (book 1).volumeCount ∧ (line []).title? 4501 = some (book 0)
      ∧ (book 0).volumeCount = 0 ∧ geometryInRange { geometry with board := 51 } = false
      ∧ ((line []).titles.map Title.code).Nodup ∧ geometryInRange geometry = true ∧ nominalPlanPasses geometry = true
      ∧ lastOfTitle.Awaiting ∧ lastOfTitle.title? 4501 = some { book 1 with retiring := true }
      ∧ { book 1 with retiring := true }.retiring = true ∧ (book 0).retiring = false
      ∧ (line []).titles = [] ++ book 0 :: [] := by
  simp only [State.Awaiting]; decide

theorem witness_ranges :
    (line []).Awaiting ∧ (line []).ranges[31]? = some RangeEntry.cleared ∧ (line []).rangeFor 0x00130000 = none
      ∧ (line []).rangeFor 0x005FFFFF = some (⟨true, 0x00500000, 20, 5100, 16777200⟩, 3)
      ∧ (line []).ranges[3]? = some ⟨true, 0x00500000, 20, 5100, 16777200⟩
      ∧ (∃ e : RangeEntry, (line []).ranges[0]? = some e ∧ e.enabled = true ∧ e.sizeClass = 16
          ∧ e.base = 0x0012ABCD / 2 ^ 16 * 2 ^ 16)
      ∧ (∀ j < 32, ∀ e : RangeEntry, e ∈ (line []).ranges[j]? → ¬ (e.enabled = true ∧ e.sizeClass = 4
          ∧ e.base = 0x0012ABCD / 2 ^ 4 * 2 ^ 4))
      ∧ (⟨true, 0x00500000, 20, 5100, 16777200⟩ : RangeEntry).Sound := by
  simp only [State.Awaiting, RangeEntry.Sound]
  refine ⟨by decide, by decide, by decide, by decide, by decide, ⟨_, rfl, by decide⟩, by decide, by decide⟩

theorem witness_VolumeRequests :
    (line [copy 63 .missing]).Awaiting ∧ (∀ v ∈ (line [copy 63 .missing]).volumes, v.number ≠ 62)
      ∧ (∀ v ∈ (line [copy 63 .missing]).volumes, v.serial ≠ 0) ∧ copy 63 .missing ∈ (line [copy 63 .missing]).volumes
      ∧ (line [copy 63 .missing]).volume? 62 = none
      ∧ (line [copy 63 .missing]).volume? 63 = some (copy 63 .missing) ∧ (copy 63 .missing).state = .missing
      ∧ (line [copy 63 .cased]).volume? 63 = some (copy 63 .cased) ∧ (copy 63 .cased).state ≠ .missing
      ∧ (line [copy 0 .missing, copy 63 .awaitCase]).Awaiting := by
  simp only [State.Awaiting]; decide

theorem witness_BayRequests :
    running.Awaiting ∧ running.bays[15]? = some Bay.reset ∧ Bay.reset.state = .vacant
      ∧ running.profile.assignment[15]? = some (some .d)
      ∧ (withBay 15 closedBay running).bays[15]? = some closedBay ∧ closedBay.state = .closed
      ∧ (withBay 0 (Bay.unoccupied .faulted none) running).bays[0]? = some (Bay.unoccupied .faulted none)
      ∧ (Bay.unoccupied .faulted none).state = .faulted ∧ (Bay.unoccupied .outOfService none).state = .outOfService
      ∧ (withBay 0 (Bay.unoccupied .outOfService none) running).bays[0]? = some (Bay.unoccupied .outOfService none)
      ∧ (withBay 15 closedBay running).Awaiting := by
  simp only [State.Awaiting]; decide

theorem witness_pace_and_notices :
    running.Awaiting ∧ (4, Pace.run) ∈ ([(0, .stop), (1, .hold), (2, .crawl), (3, .ease), (4, .run)] : List (Nat × Pace))
      ∧ 2 ^ 14 ≤ 16384 ∧ 16383 < 2 ^ 14 ∧ stopped.governor.effective = .stop
      ∧ (atPace .hold .hold).governor.effective = .hold ∧ (atPace .crawl .run).governor.effective = .crawl
      ∧ (atPace .ease .run).governor.effective = .ease ∧ running.governor.effective = .run := by
  simp only [State.Awaiting]; decide

/-! ### States that meet the invariants -/

/-- A volume at each end of the table, one in bay 4, and a block whose title is absent, at STOP. -/
def mixed : State :=
  withBay 4 closedBay { line [] with
    titles := [book 2]
    governor := Governor.reset
    missList := [7021]
    volumes := [{ copy 0 .pressing with bay := some 4 }, copy 63 .awaitCase, { waiting with number := 1 }] }

theorem mixed_bounded : mixed.TablesBounded :=
  ⟨by decide, by decide, by decide, by decide, by decide, by decide, by decide, by decide, by decide, by decide,
    by decide, by decide, by decide, by decide, by decide⟩

theorem mixed_counted : mixed.TitlesCounted := ⟨by decide, by decide, by decide, by decide, by decide, by decide⟩

theorem mixed_linked : mixed.PressLinked := by
  refine ⟨by decide, by decide, ?_, ?_, ?_, by decide⟩
  · have h : ∀ r ∈ mixed.bays, (r.volume.isSome = true ↔ (heldState r.state).isSome = true) := by decide
    exact h
  · intro b r n hr hn
    have hb : b < 16 := by
      have := List.getElem?_eq_some_iff.1 hr
      exact this.1
    have h : ∀ b < 16, b = 4 ∨ (mixed.bays[b]?).bind Bay.volume = none := by decide
    rcases h b hb with rfl | h
    · cases hr
      cases hn
      decide
    · simp [hr, hn] at h
  · intro v hv b hb
    have h : ∀ v ∈ mixed.volumes, v.bay = none ∨ v.bay = some 4 ∧ v.number = 0 := by decide
    rcases h v hv with h | ⟨h, hn⟩
    · simp [h] at hb
    · rw [h] at hb
      cases hb
      exact ⟨closedBay, rfl, by rw [hn]; rfl⟩

theorem mixed_misses : mixed.MissesSound :=
  ⟨mixed_linked, by decide, by decide, by decide, by decide, by decide⟩

theorem mixed_settled : mixed.PaceSettled := ⟨by decide, by decide⟩

/-- The worked post-press sequence of section 3.4 before its resync, without the bay of volume 10: a passed part of two,
then two on the outfeed. -/
def sequenced : State :=
  { line [copy 1 .awaitJacket, copy 3 .onOutfeed, copy 8 .onOutfeed, copy 14 .jacketing] with
    postPress := [14, 1, 8, 3] }

/-- After the resync: volume 8 is MISSING, and volume 3 stands behind volume 1. -/
theorem test_resync :
    (match exec (.gauge 3 1 4501 3 524) sequenced with
      | .next t => (t.postPress, t.volumes.map fun v => (v.number, v.state))
      | _ => ([], []))
      = ([14, 1, 3], [(1, .awaitJacket), (3, .awaitJacket), (8, .missing), (14, .jacketing)]) := by decide

theorem sequenced_linked : sequenced.PressLinked := by
  have hb : ∀ r ∈ sequenced.bays, r = Bay.reset := by decide
  have hv : ∀ v ∈ sequenced.volumes, v.bay = none := by decide
  refine ⟨by decide, by decide, fun r hr => ?_, fun b r n hr hn => ?_, fun v h b h' => ?_, by decide⟩
  · rw [hb r hr]
    exact ⟨by decide, by decide⟩
  · rw [hb r (List.mem_of_getElem? hr)] at hn
    cases hn
  · rw [hv v h] at h'
    cases h'

/-- The sequence is sound, and stays so in a step that is taken. -/
theorem witness_PostPressSound :
    ({ sequenced with pending := [.gauge 3 1 4501 3 524] } : State).PostPressSound
      ∧ (∃ t, step { sequenced with pending := [.gauge 3 1 4501 3 524] } = .next t)
      ∧ State.reset.PostPressSound := by
  refine ⟨⟨⟨?_, ?_, ?_, ?_, ?_, ?_⟩, by decide, fun n => ?_, ?_⟩, ⟨_, rfl⟩,
    ⟨⟨by decide, by decide, ?_, fun b r n h hn => ?_, by decide, by decide⟩, by decide, fun n => ?_, .nil⟩⟩
  · exact sequenced_linked.numbers
  · exact sequenced_linked.numbersDistinct
  · exact sequenced_linked.filled
  · exact sequenced_linked.bayToVolume
  · exact sequenced_linked.volumeToBay
  · exact sequenced_linked.inBay
  · have h : sequenced.volumes = [copy 1 .awaitJacket, copy 3 .onOutfeed, copy 8 .onOutfeed, copy 14 .jacketing] := rfl
    simp [sequenced, line, copy, newVolume, VolumeState.isPostPress]
    omega
  · simp [State.Passed, sequenced, line, copy, newVolume, VolumeState.isPassed]
  · have hb : ∀ r ∈ State.reset.bays, r = Bay.reset := by decide
    intro r hr
    rw [hb r hr]
    exact ⟨by decide, by decide⟩
  · have hb : ∀ r ∈ State.reset.bays, r = Bay.reset := by decide
    rw [hb r (List.mem_of_getElem? h)] at hn
    cases hn
  · simp [State.reset]

theorem witness_LineClearEmptiesLine :
    mixed.Awaiting ∧ mixed.governor.effective = .stop ∧ mixed.TablesBounded ∧ mixed.TitlesCounted ∧ mixed.MissesSound
      ∧ mixed.PaceSettled ∧ (∀ n ∈ mixed.postPress, ∃ v ∈ mixed.volumes, v.number = n)
      ∧ running.Awaiting ∧ running.governor.effective ≠ .stop :=
  ⟨⟨rfl, rfl⟩, rfl, mixed_bounded, mixed_counted, mixed_misses, mixed_settled, by decide, ⟨rfl, rfl⟩, by decide⟩

/-- A command waits in front of the mixed state. -/
def mixedNext : State := { mixed with pending := [.rangeClear 31] }

theorem witness_StepsKeep :
    mixedNext.TablesBounded ∧ mixedNext.TitlesBalanced ∧ mixedNext.RangesSound ∧ mixedNext.MissesSound
      ∧ mixedNext.TagsDistinct ∧ mixedNext.PaceSettled ∧ mixedNext.profile.Legal ∧ mixedNext.WaitersUngauged
      ∧ mixedNext.SaveGuarded ∧ (saving stopped).SaveGuarded
      ∧ (∀ i ∈ mixedNext.pending, i.wellFormed = true) ∧ ∃ t, step mixedNext = .next t := by
  refine ⟨?_, ⟨?_, ?_⟩, ⟨?_, ?_⟩, ?_, ⟨by decide, by decide⟩, ?_, default_legal, ?_, ?_, ?_, by decide, ⟨_, rfl⟩⟩
  · exact ⟨by decide, by decide, by decide, by decide, by decide, by decide, by decide, by decide, by decide, by decide,
      by decide, by decide, by decide, by decide, by decide⟩
  · exact ⟨by decide, by decide, by decide, by decide, by decide, by decide⟩
  · unfold Title.Balanced; decide
  · unfold RangeEntry.Sound; decide
  · unfold RangeEntry.Apart; decide
  · exact ⟨⟨mixed_linked.numbers, mixed_linked.numbersDistinct, mixed_linked.filled, mixed_linked.bayToVolume,
      mixed_linked.volumeToBay, mixed_linked.inBay⟩, by decide, by decide, by decide, by decide, by decide⟩
  · exact ⟨by decide, by decide⟩
  · unfold State.WaitersUngauged; decide
  · unfold State.SaveGuarded; decide
  · unfold State.SaveGuarded; decide

theorem witness_OwnersChangeRecords :
    ∃ t, exec (.paceSet 4) stopped = .next t ∧ Instr.paceSet 4 ≠ .deviceReset
      ∧ t.governor.requested ≠ stopped.governor.requested :=
  ⟨_, rfl, by decide, by decide⟩

theorem witness_VolumeRecordsKeepIdentity :
    mixed.TablesBounded ∧ mixed.WaitersUngauged
      ∧ ∃ t, exec .missRead mixed = .next t ∧ copy 63 .awaitCase ∈ mixed.volumes ∧ copy 63 .awaitCase ∈ t.volumes :=
  ⟨mixed_bounded, by unfold State.WaitersUngauged; decide, _, rfl, by decide, by decide⟩

theorem witness_arithmetic :
    0 < 2 ∧ 1 ≤ 2046 ∧ foldPlan jacket 285 = .passes 990 2550 2850 4410
      ∧ (⟨true, 0x00500000, 20, 5100, 16777200⟩ : RangeEntry).enabled = true := by
  decide

end Sys2Proof.Tests
end

/-! SUPPORT. A supervisor request met by an EMPTY answer slot (R175, R176): one rule for every request. -/

namespace Sys2Proof.Machine

/-- R175, R176: what the owning block is handed. -/
theorem State.Awaiting.working_eq_taken {s : State} (h : s.Awaiting) :
    (s.shiftOut s.stateByte).setAnswerSlot .working = s.taken := by
  obtain ⟨hphase, hslot⟩ := h
  have hbyte : s.stateByte = [0x00#8] := by simp [State.stateByte, hphase, hslot, le]
  rw [hbyte]
  rfl

/-- R175: a request that is taken leaves its block's state, with the block's answer in the slot. -/
theorem State.request_of_awaiting {s t : State} {a : Answer} {k : State → State × Answer} (h : s.Awaiting)
    (hk : k s.taken = (t, a)) (ht : t.supervisor.shifted = [0x00#8]) : s.request k = t.answered a := by
  have ⟨hphase, hslot⟩ := h
  obtain ⟨hload, -⟩ | ⟨-, -, hr⟩ | ⟨-, hfull, -⟩ := s.request_cases k
  · simp [hphase] at hload
  · rw [hr, h.working_eq_taken, hk]
    simp only [State.setAnswerSlot, State.answered, ht]
  · exact absurd hslot hfull

/-- R175: the same for a block that leaves the port as it found it: the state is given as the part had it before the
write. -/
theorem State.request_of_taken {s : State} (t : State) {a : Answer} {k : State → State × Answer} (h : s.Awaiting)
    (hk : k s.taken = (t.taken, a)) : s.request k = t.answered a :=
  State.request_of_awaiting (t := t.taken) h hk rfl

end Sys2Proof.Machine

/-! SUPPORT. The range requests, case by case (R29 to R34). -/

namespace Sys2Proof.Machine

/-! ### Alignment and the overlap test -/

/-- R30: the base is rounded down to a multiple of 2^k. -/
theorem alignBase_eq_div_mul (base k : Nat) : alignBase base k = base / 2 ^ k * 2 ^ k := by
  have := Nat.div_add_mod' base (2 ^ k)
  unfold alignBase
  omega

theorem alignBase_eq_self_iff (base k : Nat) : alignBase base k = base ↔ base % 2 ^ k = 0 := by
  have := Nat.mod_le base (2 ^ k)
  unfold alignBase
  omega

/-- R31: the entry at `j` is not the named one, is enabled, and holds the size class and the aligned base. -/
def State.ClashesAt (s : State) (index base k j : Nat) : Prop :=
  j ≠ index ∧ ∃ e, s.ranges[j]? = some e ∧ e.enabled = true ∧ e.sizeClass = k ∧ e.base = base

/-- R31: the test that `State.rangeConflict` makes of an entry with its index. -/
theorem State.clashesAt_iff_of_getElem {s : State} {index base k j : Nat} (hj : j < s.ranges.length) :
    s.ClashesAt index base k j ↔
      (j != index && s.ranges[j].enabled && s.ranges[j].sizeClass == k && s.ranges[j].base == base) = true := by
  simp [State.ClashesAt, List.getElem?_eq_getElem hj, and_assoc]

/-- R31: the conflict reported is the lowest index that clashes. -/
theorem State.rangeConflict_eq_some {s : State} {index base k j : Nat} (hj : s.ClashesAt index base k j)
    (hfirst : ∀ m < j, ¬ s.ClashesAt index base k m) : s.rangeConflict index base k = some j := by
  have ⟨_, e, he, _⟩ := hj
  have hlt : j < s.ranges.length := (List.getElem?_eq_some_iff.1 he).1
  refine Option.map_eq_some_iff.2
    ⟨(s.ranges[j], j), List.find?_eq_some_iff_getElem.2 ⟨?_, j, by simpa, by simp, ?_⟩, rfl⟩
  · exact (State.clashesAt_iff_of_getElem hlt).1 hj
  · intro m hm
    have hfree := hfirst m hm
    rw [State.clashesAt_iff_of_getElem (hm.trans hlt)] at hfree
    simpa only [List.getElem_zipIdx, Nat.zero_add, Bool.not_eq_true', Bool.not_eq_true] using hfree

/-- R31: where no entry clashes, none is reported. -/
theorem State.rangeConflict_eq_none {s : State} {index base k : Nat} (h : ∀ j, ¬ s.ClashesAt index base k j) :
    s.rangeConflict index base k = none := by
  refine Option.map_eq_none_iff.2 (List.find?_eq_none.2 ?_)
  rintro ⟨e, j⟩ hmem hclash
  have he : s.ranges[j]? = some e := List.mem_zipIdx_iff_getElem?.1 hmem
  obtain ⟨hlt, rfl⟩ := List.getElem?_eq_some_iff.1 he
  exact h j ((State.clashesAt_iff_of_getElem hlt).2 hclash)

/-! ### RANGE_SET -/

/-- R29 steps 1 to 4, for a title code that its three bytes can carry. -/
theorem rangeValuesGood_iff {i k code unit : Nat} (hcode : code ≤ 16777215) :
    rangeValuesGood i k code unit = true ↔ i ≤ 31 ∧ 4 ≤ k ∧ k ≤ 24 ∧ code ≠ 0 ∧ unit ≤ 16777215 := by
  simp only [rangeValuesGood, goodTitleCode, Bool.and_eq_true, decide_eq_true_eq, bne_iff_ne]
  simp only [Config.rangeEntries, Config.codeMax]
  omega

theorem setRangeRequest_of_bad {i base k code unit : Nat} (s : State)
    (hbad : rangeValuesGood i k code unit = false) :
    setRangeRequest i base k code unit s = (s, refuse .rangeSet .badValue) := by
  simp [setRangeRequest, hbad]

theorem setRangeRequest_of_conflict {s : State} {i base k code unit j : Nat}
    (hgood : rangeValuesGood i k code unit = true) (hj : s.rangeConflict i (alignBase base k) k = some j) :
    setRangeRequest i base k code unit s = (s, ⟨0x48, .refused, some .overlap, [BitVec.ofNat 8 j]⟩) := by
  simp [setRangeRequest, hgood, hj, kindByte, le]

theorem setRangeRequest_of_free {s : State} {i base k code unit : Nat}
    (hgood : rangeValuesGood i k code unit = true) (hfree : s.rangeConflict i (alignBase base k) k = none) :
    setRangeRequest i base k code unit s = (s.setRange i ⟨true, alignBase base k, k, code, unit⟩,
      ⟨0x48, if base % 2 ^ k = 0 then .ok else .okAligned, none, pack [(4, alignBase base k)]⟩) := by
  simp [setRangeRequest, hgood, hfree, kindByte, pack, alignBase_eq_self_iff]

/-- R29 steps 1 to 4 at the part. -/
theorem exec_rangeSet_badValue {s : State} {i base k code unit : Nat} (h : s.Awaiting)
    (hbad : rangeValuesGood i k code unit = false) :
    exec (.rangeSet i base k code unit) s = .next (s.answered ⟨0x48, .refused, some .badValue, []⟩) :=
  congrArg Host.Outcome.next (State.request_of_taken s h (setRangeRequest_of_bad s.taken hbad))

/-- R29 step 5 at the part: the lowest clashing index goes into the answer. -/
theorem exec_rangeSet_overlap {s : State} {i base k code unit j : Nat} (h : s.Awaiting)
    (hgood : rangeValuesGood i k code unit = true) (hj : s.ClashesAt i (alignBase base k) k j)
    (hfirst : ∀ m < j, ¬ s.ClashesAt i (alignBase base k) k m) :
    exec (.rangeSet i base k code unit) s
      = .next (s.answered ⟨0x48, .refused, some .overlap, [BitVec.ofNat 8 j]⟩) := by
  have hconflict : s.taken.rangeConflict i (alignBase base k) k = some j := State.rangeConflict_eq_some hj hfirst
  exact congrArg Host.Outcome.next (State.request_of_taken s h (setRangeRequest_of_conflict hgood hconflict))

/-- R29, R30, R32: an accepted request replaces the named entry whole. -/
theorem exec_rangeSet_stored {s : State} {i base k code unit : Nat} (h : s.Awaiting)
    (hgood : rangeValuesGood i k code unit = true) (hfree : ∀ j, ¬ s.ClashesAt i (alignBase base k) k j) :
    exec (.rangeSet i base k code unit) s = .next (State.answered
      ⟨0x48, if base % 2 ^ k = 0 then .ok else .okAligned, none, pack [(4, alignBase base k)]⟩
      { s with ranges := s.ranges.set i ⟨true, alignBase base k, k, code, unit⟩ }) := by
  have hnone : s.taken.rangeConflict i (alignBase base k) k = none := State.rangeConflict_eq_none hfree
  exact congrArg Host.Outcome.next (State.request_of_taken { s with ranges := _ } h
    (setRangeRequest_of_free hgood hnone))

/-! ### RANGE_CLEAR and RANGE_READ -/

/-- R25: a range request that names an index above 31. -/
theorem onRange_of_gt {i : Nat} (kind : Kind) (f : RangeEntry → State → State × Answer) (s : State) (hi : 31 < i) :
    onRange kind i f s = (s, refuse kind .badValue) :=
  if_pos (Nat.succ_le_of_lt hi)

/-- R25: a range request that names an entry of the map. -/
theorem onRange_of_entry {i : Nat} {e : RangeEntry} {s : State} (kind : Kind)
    (f : RangeEntry → State → State × Answer) (hi : i ≤ 31) (he : s.ranges[i]? = some e) :
    onRange kind i f s = f e s := by
  have hin : ¬ Config.rangeEntries ≤ i := by simp only [Config.rangeEntries]; omega
  simp [onRange, hin, he]

theorem clearRangeRequest_of_entry {s : State} {i : Nat} {e : RangeEntry} (hi : i ≤ 31) (he : s.ranges[i]? = some e) :
    clearRangeRequest i s = (s.setRange i { e with enabled := false }, ⟨0x49, .ok, none, []⟩) :=
  onRange_of_entry .rangeClear _ hi he

theorem readRangeRequest_index_of_entry {s : State} {i : Nat} {e : RangeEntry} (hi : i ≤ 31)
    (he : s.ranges[i]? = some e) :
    readRangeRequest (.index i) s = (s, ⟨0x4A, .ok, none, rangeFields e⟩) :=
  onRange_of_entry .rangeRead (fun e s => (s, okAnswer .rangeRead (rangeFields e))) hi he

theorem readRangeRequest_index_of_gt {i : Nat} (s : State) (hi : 31 < i) :
    readRangeRequest (.index i) s = (s, refuse .rangeRead .badValue) :=
  onRange_of_gt .rangeRead (fun e s => (s, okAnswer .rangeRead (rangeFields e))) s hi

/-- R34: the index form's fields, packed. -/
theorem rangeFields_eq_pack (e : RangeEntry) :
    rangeFields e
      = pack [(1, if e.enabled then 1 else 0), (4, e.base), (1, e.sizeClass), (3, e.code), (3, e.unitBase)] := by
  simp [rangeFields, flagByte, pack, Bool.toNat, Bool.cond_eq_ite]

/-- R33: the enabled flag goes, and the other fields of the entry stay. -/
theorem exec_rangeClear_entry {s : State} {i : Nat} {e : RangeEntry} (h : s.Awaiting) (hi : i ≤ 31)
    (he : s.ranges[i]? = some e) :
    exec (.rangeClear i) s = .next (State.answered ⟨0x49, .ok, none, []⟩
      { s with ranges := s.ranges.set i { e with enabled := false } }) :=
  congrArg Host.Outcome.next (State.request_of_taken { s with ranges := _ } h
    (clearRangeRequest_of_entry (s := s.taken) hi he))

theorem exec_rangeClear_badValue {s : State} {i : Nat} (h : s.Awaiting) (hi : 31 < i) :
    exec (.rangeClear i) s = .next (s.answered ⟨0x49, .refused, some .badValue, []⟩) :=
  congrArg Host.Outcome.next (State.request_of_taken s h (onRange_of_gt .rangeClear _ s.taken hi))

/-- R34, index form. -/
theorem exec_rangeRead_entry {s : State} {i : Nat} {e : RangeEntry} (h : s.Awaiting) (hi : i ≤ 31)
    (he : s.ranges[i]? = some e) :
    exec (.rangeRead (.index i)) s = .next (s.answered ⟨0x4A, .ok, none, rangeFields e⟩) :=
  congrArg Host.Outcome.next (State.request_of_taken s h (readRangeRequest_index_of_entry (s := s.taken) hi he))

theorem exec_rangeRead_badValue {s : State} {i : Nat} (h : s.Awaiting) (hi : 31 < i) :
    exec (.rangeRead (.index i)) s = .next (s.answered ⟨0x4A, .refused, some .badValue, []⟩) :=
  congrArg Host.Outcome.next (State.request_of_taken s h (readRangeRequest_index_of_gt s.taken hi))

/-- R34, serial form, of a serial no enabled entry covers. -/
theorem findSerialRequest_of_none {s : State} {n : Nat} (hn : s.rangeFor n = none) :
    findSerialRequest n s = (s, ⟨0x4A, .refused, some .notFound, []⟩) := by
  simp [findSerialRequest, hn, refuse, refusedAnswer, kindByte]

/-- R34, serial form, of a serial the lookup finds. -/
theorem findSerialRequest_of_some {s : State} {n i : Nat} {e : RangeEntry} (hn : s.rangeFor n = some (e, i)) :
    findSerialRequest n s = (s, ⟨0x4A, .ok, none, pack [(1, i), (3, e.code), (3, unitNumber e n)]⟩) := by
  simp [findSerialRequest, hn, okAnswer, kindByte, pack]

theorem exec_rangeRead_serial_notFound {s : State} {n : Nat} (h : s.Awaiting) (hn : s.rangeFor n = none) :
    exec (.rangeRead (.serial n)) s = .next (s.answered ⟨0x4A, .refused, some .notFound, []⟩) :=
  congrArg Host.Outcome.next (State.request_of_taken s h (findSerialRequest_of_none (s := s.taken) hn))

theorem exec_rangeRead_serial_found {s : State} {n i : Nat} {e : RangeEntry} (h : s.Awaiting)
    (hn : s.rangeFor n = some (e, i)) :
    exec (.rangeRead (.serial n)) s
      = .next (s.answered ⟨0x4A, .ok, none, pack [(1, i), (3, e.code), (3, unitNumber e n)]⟩) :=
  congrArg Host.Outcome.next (State.request_of_taken s h (findSerialRequest_of_some (s := s.taken) hn))

/-- Settles O40: the checks of RANGE_SET one after another, then RANGE_CLEAR and the two forms of RANGE_READ. -/
theorem rangeSetClearRead : Obligations.RangeSetClearRead := by
  unfold Obligations.RangeSetClearRead
  refine ⟨fun s i base k code unit h hcode => ?_, fun s h => ⟨fun i e hi he => ?_, fun i hi => ?_, fun n hn => ?_,
    fun n e i hn => ?_⟩⟩
  · have hgood := rangeValuesGood_iff (i := i) (k := k) (unit := unit) hcode
    rw [← alignBase_eq_div_mul]
    refine ⟨fun hbad => exec_rangeSet_badValue h ?_, fun hi hk hk' hc hu => ?_⟩
    · rw [Bool.eq_false_iff, ne_eq, hgood]
      omega
    · have hpass := hgood.2 ⟨hi, hk, hk', hc, hu⟩
      exact ⟨fun j hj hfirst => exec_rangeSet_overlap h hpass hj hfirst,
        fun hfree => exec_rangeSet_stored h hpass hfree⟩
  · exact ⟨exec_rangeClear_entry h hi he, rangeFields_eq_pack e ▸ exec_rangeRead_entry h hi he⟩
  · exact ⟨exec_rangeClear_badValue h hi, exec_rangeRead_badValue h hi⟩
  · exact exec_rangeRead_serial_notFound h hn
  · exact exec_rangeRead_serial_found h hn

end Sys2Proof.Machine

/-! SUPPORT. The notice unit bit by bit, and the notice requests (R180 to R184). -/

namespace Sys2Proof.Machine

/-! ### The bits of the kinds -/

/-- Section 10.1: the kinds in the order of their bits. -/
def noticeKinds : List Notice :=
  [.evicted, .retired, .quota, .divert, .bare, .overpress, .stray, .misreport, .pace, .profile,
    .titleMiss, .bayFault, .tracking, .latched]

theorem noticeKinds_map_noticeBit : noticeKinds.map noticeBit = List.range 14 := rfl

theorem noticeKinds_getElem?_noticeBit (k : Notice) : noticeKinds[noticeBit k]? = some k := by
  cases k <;> rfl

theorem noticeBit_lt (k : Notice) : noticeBit k < 14 :=
  (List.getElem?_eq_some_iff.1 (noticeKinds_getElem?_noticeBit k)).1

theorem noticeBit_injective : Function.Injective noticeBit := fun j k h =>
  Option.some.inj (by rw [← noticeKinds_getElem?_noticeBit j, h, noticeKinds_getElem?_noticeBit k])

/-- Every bit of the unit belongs to a kind. -/
theorem exists_noticeBit_eq {i : Nat} (hi : i < 14) : ∃ k, noticeBit k = i := by
  have hmem : i ∈ noticeKinds.map noticeBit := noticeKinds_map_noticeBit ▸ List.mem_range.2 hi
  obtain ⟨k, -, hk⟩ := List.mem_map.1 hmem
  exact ⟨k, hk⟩

@[simp] theorem getLsbD_noticeMask (k j : Notice) : (noticeMask k).getLsbD (noticeBit j) = (j == k) := by
  change (BitVec.twoPow 14 (noticeBit k)).getLsbD (noticeBit j) = _
  simp [noticeBit_lt, noticeBit_injective.eq_iff, beq_eq_decide, eq_comm]

/-- A mask of two bytes names the kinds whose bits are set in it. -/
@[simp] theorem getLsbD_ofNat_noticeBit (m : Nat) (k : Notice) :
    (BitVec.ofNat 14 m).getLsbD (noticeBit k) = m.testBit (noticeBit k) := by
  rw [BitVec.getLsbD_ofNat, decide_eq_true (noticeBit_lt k), Bool.true_and]

theorem ne_zero_iff_exists_noticeBit (x : BitVec 14) : x ≠ 0 ↔ ∃ k : Notice, x.getLsbD (noticeBit k) = true := by
  refine ⟨fun hx => ?_, ?_⟩
  · by_contra hnone
    refine hx (BitVec.eq_of_getLsbD_eq fun i hi => ?_)
    obtain ⟨k, rfl⟩ := exists_noticeBit_eq hi
    simpa using fun hk => hnone ⟨k, hk⟩
  · rintro ⟨k, hk⟩ rfl
    simp at hk

/-! ### The conditions, a notice raised, and ATTENTION -/

theorem getLsbD_ite_noticeMask (c : Bool) (j k : Notice) :
    (if c then noticeMask j else 0).getLsbD (noticeBit k) = (c && k == j) := by
  cases c <;> simp

/-- R181: a condition sets the bit of its own kind and no other. -/
theorem State.getLsbD_conditions (s : State) (k : Notice) :
    s.conditions.getLsbD (noticeBit k) = ((s.missList != [] && k == .titleMiss) || (s.anyFaulted && k == .bayFault)
      || (s.anyMissing && k == .tracking) || (s.anyLatch && k == .latched)) := by
  have hmiss : (if s.missList.isEmpty then 0 else noticeMask .titleMiss)
      = if s.missList != [] then noticeMask .titleMiss else 0 := by simp [ite_not]
  simp only [State.conditions, hmiss, BitVec.getLsbD_or, getLsbD_ite_noticeMask]

/-- R180: a kind raised sets its own flag where its enable stands. -/
theorem State.getLsbD_raise_flags (s : State) (k j : Notice) :
    (State.raise k s).notices.flags.getLsbD (noticeBit j)
      = (s.notices.flags.getLsbD (noticeBit j) || (j == k && s.notices.enables.getLsbD (noticeBit j))) := by
  simp [Bool.and_comm]

/-- R184. -/
theorem State.attention_iff (s : State) : s.attention = true ↔ ∃ k : Notice,
    s.notices.enables.getLsbD (noticeBit k) = true ∧ s.notices.flags.getLsbD (noticeBit k) = true := by
  simp only [State.attention, bne_iff_ne, ne_zero_iff_exists_noticeBit, BitVec.getLsbD_and, Bool.and_eq_true]

/-! ### NOTICE_ENABLE and NOTICE_CLEAR -/

/-- R182, R183: a mask with bit 14 or 15 set is not good. -/
theorem goodMask_of_ge {m : Nat} (hm : 2 ^ 14 ≤ m) : goodMask m = false := decide_eq_false (Nat.not_lt.2 hm)

theorem goodMask_of_lt {m : Nat} (hm : m < 2 ^ 14) : goodMask m = true := decide_eq_true hm

/-- R182: a kind named is flagged where its condition is true, and every flag that stood is kept. -/
theorem State.getLsbD_writeEnables_flags (s : State) (m : Nat) (k : Notice) :
    (s.writeEnables (BitVec.ofNat 14 m)).notices.flags.getLsbD (noticeBit k)
      = (s.notices.flags.getLsbD (noticeBit k) || (m.testBit (noticeBit k) && s.conditions.getLsbD (noticeBit k))) := by
  change (s.notices.flags ||| (BitVec.ofNat 14 m &&& s.conditions)).getLsbD _ = _
  simp

/-- R183: a kind named keeps a flag only where it is enabled and its condition is true. -/
theorem State.getLsbD_clearFlags_flags (s : State) (m : Nat) (k : Notice) :
    (s.clearFlags (BitVec.ofNat 14 m)).notices.flags.getLsbD (noticeBit k) = if m.testBit (noticeBit k)
      then s.notices.enables.getLsbD (noticeBit k) && s.conditions.getLsbD (noticeBit k)
      else s.notices.flags.getLsbD (noticeBit k) := by
  simp only [State.clearFlags_notices, BitVec.getLsbD_or, BitVec.getLsbD_and, BitVec.getLsbD_not,
    getLsbD_ofNat_noticeBit, noticeBit_lt]
  cases m.testBit (noticeBit k) <;> simp

theorem enableRequest_of_ge {m : Nat} (s : State) (hm : 2 ^ 14 ≤ m) :
    enableRequest m s = (s, refuse .noticeEnable .badValue) := by
  simp [enableRequest, goodMask_of_ge hm]

theorem enableRequest_of_lt {m : Nat} (s : State) (hm : m < 2 ^ 14) :
    enableRequest m s = (s.writeEnables (BitVec.ofNat 14 m), ⟨0x53, .ok, none,
      pack [(2, m), (2, (s.writeEnables (BitVec.ofNat 14 m)).notices.flags.toNat)]⟩) := by
  have hback : (s.writeEnables (BitVec.ofNat 14 m)).notices.enables.toNat = m := Nat.mod_eq_of_lt hm
  simp [enableRequest, goodMask_of_lt hm, hback, okAnswer, kindByte, pack]

theorem clearRequest_of_ge {m : Nat} (s : State) (hm : 2 ^ 14 ≤ m) :
    clearRequest m s = (s, refuse .noticeClear .badValue) := by
  simp [clearRequest, goodMask_of_ge hm]

theorem clearRequest_of_lt {m : Nat} (s : State) (hm : m < 2 ^ 14) :
    clearRequest m s = (s.clearFlags (BitVec.ofNat 14 m), ⟨0x54, .ok, none,
      pack [(2, (s.clearFlags (BitVec.ofNat 14 m)).notices.flags.toNat)]⟩) := by
  simp [clearRequest, goodMask_of_lt hm, okAnswer, kindByte, pack]

theorem exec_noticeEnable_badValue {s : State} {m : Nat} (h : s.Awaiting) (hm : 2 ^ 14 ≤ m) :
    exec (.noticeEnable m) s = .next (s.answered ⟨0x53, .refused, some .badValue, []⟩) :=
  congrArg Host.Outcome.next (State.request_of_taken s h (enableRequest_of_ge s.taken hm))

/-- R182 at the part. -/
theorem exec_noticeEnable_written {s : State} {m : Nat} (h : s.Awaiting) (hm : m < 2 ^ 14) :
    exec (.noticeEnable m) s = .next (State.answered ⟨0x53, .ok, none,
      pack [(2, m), (2, (s.writeEnables (BitVec.ofNat 14 m)).notices.flags.toNat)]⟩
      (s.writeEnables (BitVec.ofNat 14 m))) :=
  congrArg Host.Outcome.next (State.request_of_taken (s.writeEnables _) h (enableRequest_of_lt s.taken hm))

theorem exec_noticeClear_badValue {s : State} {m : Nat} (h : s.Awaiting) (hm : 2 ^ 14 ≤ m) :
    exec (.noticeClear m) s = .next (s.answered ⟨0x54, .refused, some .badValue, []⟩) :=
  congrArg Host.Outcome.next (State.request_of_taken s h (clearRequest_of_ge s.taken hm))

/-- R183 at the part. -/
theorem exec_noticeClear_cleared {s : State} {m : Nat} (h : s.Awaiting) (hm : m < 2 ^ 14) :
    exec (.noticeClear m) s = .next (State.answered ⟨0x54, .ok, none,
      pack [(2, (s.clearFlags (BitVec.ofNat 14 m)).notices.flags.toNat)]⟩
      (s.clearFlags (BitVec.ofNat 14 m))) :=
  congrArg Host.Outcome.next (State.request_of_taken (s.clearFlags _) h (clearRequest_of_lt s.taken hm))

/-! ### NOTICE_READ -/

/-- R184: the condition byte is the sum of the values of the bits that are set. -/
theorem State.conditionByte_eq_pack (s : State) : s.conditionByte = pack [(1,
    (if s.missList != [] then 1 else 0) + (if s.anyFaulted then 2 else 0) + (if s.anyMissing then 4 else 0)
      + (if s.anyLatch then 8 else 0))] := by
  have hbit (b : Bool) (n : Nat) : (if b then n else 0) = n * b.toNat := by cases b <;> simp
  have hmiss : (s.missList != []) = !s.missList.isEmpty := by simp [bne]
  simp only [State.conditionByte, setByte, pack, hbit, hmiss, List.foldr_cons, List.foldr_nil, List.flatMap_cons,
    List.flatMap_nil, List.append_nil]
  congr 1
  ring

/-- R184 at the part. -/
theorem exec_noticeRead {s : State} (h : s.Awaiting) :
    exec .noticeRead s = .next (s.answered ⟨0x55, .ok, none,
      le 2 s.notices.flags.toNat ++ le 2 s.notices.enables.toNat ++ s.conditionByte⟩) :=
  congrArg Host.Outcome.next (State.request_of_taken s h rfl)

/-! ### The obligations -/

/-- Settles O45, from the four rules of NOTICE_ENABLE and NOTICE_CLEAR and the bits each leaves in the flags. -/
theorem noticeEnableAndClear : Obligations.NoticeEnableAndClear := by
  unfold Obligations.NoticeEnableAndClear
  refine ⟨fun s m h => ⟨exec_noticeEnable_badValue h, fun hm => ⟨_, s.getLsbD_writeEnables_flags m, ?_⟩⟩,
    fun s m h => ⟨exec_noticeClear_badValue h, fun hm => ⟨_, s.getLsbD_clearFlags_flags m, ?_⟩⟩⟩
  · exact exec_noticeEnable_written h hm
  · exact exec_noticeClear_cleared h hm

/-- Settles O46: the four level conditions read bit by bit, in the answer and in the mask over the kinds. -/
theorem noticesReadAndRaised : Obligations.NoticesReadAndRaised := by
  unfold Obligations.NoticesReadAndRaised
  refine ⟨fun s h => ?_, fun s k => ?_, fun s k j => ⟨s.getLsbD_raise_flags k j, rfl⟩, State.attention_iff⟩
  · rw [exec_noticeRead h, s.conditionByte_eq_pack]
    rfl
  · rw [s.getLsbD_conditions k]
    cases k <;> simp [State.anyFaulted, State.anyMissing, State.anyLatch, beq_eq_decide]

end Sys2Proof.Machine

/-! SUPPORT. What one command can do to the part, said once: at most one admission, then a chain of single changes.
Every promise about all commands is proved change by change. -/

namespace Sys2Proof.Machine

/-! ### Changes of one volume record -/

/-- R39: a record keeps its identity, and each of its flags once set. -/
structure Volume.SameIdentity (v w : Volume) : Prop where
  number : w.number = v.number
  serial : w.serial = v.serial
  title : w.title = v.title
  unit : w.unit = v.unit
  raw : w.raw = v.raw
  ungauged : v.ungauged = true → w.ungauged = true
  overpressed : v.overpressed = true → w.overpressed = true
  pressFault : v.pressFault = true → w.pressFault = true
  unverified : v.unverified = true → w.unverified = true
  returned : v.returned = true → w.returned = true
  outUngauged : v.outUngauged = true → w.outUngauged = true

/-- R40: a record moves on without being bound or cased anew, and never back to AWAIT_TITLE. -/
structure Volume.Moved (v w : Volume) : Prop extends Volume.SameIdentity v w where
  bound : w.bound = v.bound
  caseTag : w.caseTag = v.caseTag
  sameUngauged : w.ungauged = v.ungauged
  waiting : w.state = .awaitTitle → v.state = .awaitTitle

/-- R40: a record takes a count, a reading or a flag, and stays in its state and its bay. -/
structure Volume.Annotated (v w : Volume) : Prop extends Volume.Moved v w where
  state : w.state = v.state
  bay : w.bay = v.bay

theorem Volume.SameIdentity.refl (v : Volume) : v.SameIdentity v := by constructor <;> simp

theorem Volume.SameIdentity.trans {u v w : Volume} (h : u.SameIdentity v) (g : v.SameIdentity w) :
    u.SameIdentity w where
  number := g.number.trans h.number
  serial := g.serial.trans h.serial
  title := g.title.trans h.title
  unit := g.unit.trans h.unit
  raw := g.raw.trans h.raw
  ungauged := g.ungauged ∘ h.ungauged
  overpressed := g.overpressed ∘ h.overpressed
  pressFault := g.pressFault ∘ h.pressFault
  unverified := g.unverified ∘ h.unverified
  returned := g.returned ∘ h.returned
  outUngauged := g.outUngauged ∘ h.outUngauged

theorem Volume.Moved.refl (v : Volume) : v.Moved v := by constructor <;> simp [Volume.SameIdentity.refl]

theorem Volume.Annotated.refl (v : Volume) : v.Annotated v := by constructor <;> simp [Volume.Moved.refl]

/-- A change made to the records of one number alone, if it is made at all. -/
theorem Volume.Moved.ite {v w : Volume} {p : Prop} [Decidable p] (h : v.Moved w) : v.Moved (if p then w else v) := by
  split
  · exact h
  · exact .refl v

theorem Volume.Annotated.ite {v w : Volume} {p : Prop} [Decidable p] (h : v.Annotated w) :
    v.Annotated (if p then w else v) := by
  split
  · exact h
  · exact .refl v

/-- R105: a volume follows its bay from one occupied state to another. -/
structure Staged (old new : BayState) (f : Volume → Volume) : Prop where
  moved : ∀ v : Volume, v.Moved (f v)
  bay : ∀ v, (f v).bay = v.bay
  state : ∀ v, heldState old = some v.state → heldState new = some (f v).state
  emptying : new = .emptying ↔ old = .emptying

/-- R3: a record of a title that keeps its slot, its code and everything counted of it. -/
structure Title.SameCounts (t u : Title) : Prop where
  slot : u.slot = t.slot
  code : u.code = t.code
  volumeCount : u.volumeCount = t.volumeCount
  admitted : u.admitted = t.admitted
  outJacketed : u.outJacketed = t.outJacketed
  outBare : u.outBare = t.outBare
  diverted : u.diverted = t.diverted
  cleared : u.cleared = t.cleared

/-! ### The changes -/

/-- One change that the command `c` can make to the state `s`. -/
inductive Change (c : Instr) (s : State) : State → Prop
  /-- The ports alone: output lists, held-query slots, the answer slot and the bytes driven. -/
  | ports (st : List StationLine) (sp : SupervisorPort) (hlen : st.length = s.stations.length) :
      Change c s { s with stations := st, supervisor := sp }
  | raise (k : Notice) : Change c s (s.raise k)
  | clock (n : Nat) : Change c s (s.clockReaches n)
  | post (p : Posted) (hroom : s.reports.length < 32) : Change c s { s with reports := s.reports ++ [p] }
  | unpost (p : Posted) (rest : List Posted) (hhead : s.reports = p :: rest) : Change c s { s with reports := rest }
  | seeCase (tag : Tag) (hroom : s.caseWindow.length < 8) :
      Change c s { s with caseWindow := s.caseWindow ++ [⟨tag, s.caseTagInUse tag⟩] }
  | jackets (w : List WindowEntry) (hroom : w.length ≤ 4 ∨ w.length ≤ s.jacketWindow.length) :
      Change c s { s with jacketWindow := w }
  | annotate (f : Volume → Volume) (hf : ∀ v : Volume, v.Annotated (f v)) : Change c s { s with volumes := s.volumes.map f }
  | marry (v : Volume) (k : Nat) (e : WindowEntry) (hv : v ∈ s.volumes) (hst : v.state = .awaitCase)
      (hentry : s.caseWindow[k]? = some e) (hclear : e.double = false) : Change c s (takeCase v k e.tag s).1
  | cased (v : Volume) (hv : v ∈ s.volumes) (hst : v.state = .casing) :
      Change c s (s.updVolume v.number fun u => { u with state := .cased })
  | finish (v : Volume) (f : Finish) (hv : v ∈ s.volumes) (hst : v.state = .awaitJacket) :
      Change c s (s.giveFinish v.number f)
  | miss (v : Volume) (hv : v ∈ s.volumes) (hst : v.state = .onOutfeed ∨ v.state = .missing) :
      Change c s (s.goMissing v.number)
  | pass (v : Volume) (hv : v ∈ s.volumes) (hst : v.state = .onOutfeed ∨ v.state = .missing) :
      Change c s ((s.updVolume v.number fun u => { u with state := .awaitJacket }).placePassed v.number)
  | remove (k : Removal) (v : Volume) (hv : v ∈ s.volumes) (hst : v.state.inBay = false) :
      Change c s (s.removeVolume k v)
  | unload (b : Nat) (r : Bay) (hb : s.bays[b]? = some r) (hr : r.state = .done) : Change c s (unloadBay b s).1
  | load (v : Volume) (b : Nat) (r : Bay) (hv : v ∈ s.volumes) (hst : v.state = .cased) (hb : s.bays[b]? = some r)
      (hr : r.state = .vacant) : Change c s (loadVolume v b s).1
  | stage (b : Nat) (r r' : Bay) (f : Volume → Volume) (hb : s.bays[b]? = some r) (hr : r.state.isOccupied = true)
      (hr' : r'.state.isOccupied = true) (hvol : r'.volume = r.volume) (hf : Staged r.state r'.state f) :
      Change c s ((s.setBay b r').updBayVolume r f)
  | empty (b : Nat) (r : Bay) (was : Bool) (hb : s.bays[b]? = some r) (hr : r.state = .emptying) :
      Change c s (State.levelRises .bayFault was ((s.setBay b (emptiedBay s.clock r)).updBayVolume r fun v =>
        { v with state := .onOutfeed, bay := none })).repace
  | reject (b : Nat) (r : Bay) (was : Bool) (hb : s.bays[b]? = some r) (hr : r.state = .reserved) :
      Change c s (State.levelRises .bayFault was
        ((s.updBayVolume r fun v => { v with state := .cased, bay := none, dwell := none }).setBay b
          (Bay.unoccupied .faulted none)))
  | idleBay (b : Nat) (r r' : Bay) (was : Bool) (hb : s.bays[b]? = some r) (hr : r.state.isOccupied = false)
      (hr' : r'.state.isOccupied = false) (hvol : r'.volume = r.volume ∨ r'.volume = none) :
      Change c s (State.levelRises .bayFault was (s.setBay b r')).repace
  | repace : Change c s s.repace
  | govern (g : Governor) (was : Bool) (hreq : g.requested = s.governor.requested)
      (hguard : s.governor.guardLatch = true → g.guardLatch = true)
      (hglue : s.governor.glueLatch = true → g.glueLatch = true) :
      Change c s (State.levelRises .latched was { s with governor := g }).repace
  | levels (l : ConditionLines) (hphase : s.phase = .loading) :
      Change c s { s with governor := { s.governor with lines := l } }
  | setPace (n : Nat) (p : Pace) (hc : c = .paceSet n) (hphase : s.phase ≠ .loading) :
      Change c s (s.requestPace p).repace
  | releaseLatches (hc : c = .paceRelease) : Change c s s.releaseLatches.repace
  | storeTitle (slot code : Nat) (g : GeometryGroup) (p : ProcessGroup) (victim : Option Nat)
      (hcode : s.title? code = none) (hslot : s.slotForLoad = some (slot, victim)) :
      Change c s (s.storeTitle (newTitle slot code g p) victim)
  | dropTitles (keep : Title → Bool)
      (hdrop : ∀ t ∈ s.titles, keep t = false → ∃ u ∈ s.titles, u.code = t.code ∧ u.volumeCount = 0) :
      Change c s { s with titles := s.titles.filter keep }
  | retitle (code : Nat) (t : Title) (f : Title → Title) (ht : s.title? code = some t)
      (hf : ∀ u : Title, u.SameCounts (f u))
      (hret : (f t).retiring = true →
        (t.retiring = true ∧ (f t).hold = t.hold) ∨ ((f t).hold = false ∧ (t.retiring = true ∨ 0 < t.volumeCount))) :
      Change c s (s.updTitle code f)
  | touch (code : Nat) : Change c s (s.touchTitle code)
  | setRange (i base k code unit : Nat) (hc : c = .rangeSet i base k code unit)
      (hgood : rangeValuesGood i k code unit = true) (hfree : s.rangeConflict i (alignBase base k) k = none) :
      Change c s (s.setRange i ⟨true, alignBase base k, k, code, unit⟩)
  | clearRange (i : Nat) (e : RangeEntry) (hc : c = .rangeClear i) (he : e = (s.ranges[i]?).getD RangeEntry.cleared) :
      Change c s (s.setRange i { e with enabled := false })
  | writeEnables (m : Nat) (mask : BitVec 14) (hc : c = .noticeEnable m) : Change c s (s.writeEnables mask)
  | clearFlags (m : Nat) (mask : BitVec 14) (hc : c = .noticeClear m) : Change c s (s.clearFlags mask)
  /-- R187: a section whose new values the governor does not read. -/
  | setSection (n : Nat) (fields : List Byte) (vals : List Nat) (hc : c = .profileSet n fields) (hn : n = 0 ∨ n = 2)
      (hlen : vals.length = (sectionWidths n).length) (hgood : sectionAcceptable n vals = true) :
      Change c s { s with profile := withSection s.profile n vals }
  /-- R187: a section whose new values the governor takes up. -/
  | setPacedSection (n : Nat) (fields : List Byte) (vals : List Nat) (g : Governor) (was : Bool)
      (hc : c = .profileSet n fields) (hn : n = 1 ∨ n = 3)
      (hlen : vals.length = (sectionWidths n).length) (hgood : sectionAcceptable n vals = true)
      (hreq : g.requested = s.governor.requested)
      (hguard : s.governor.guardLatch = true → g.guardLatch = true)
      (hglue : s.governor.glueLatch = true → g.glueLatch = true) :
      Change c s (State.levelRises .latched was
        { s with profile := withSection s.profile n vals, governor := g }).repace
  | beginSave (hc : c = .profileSave) (hidle : s.profileStatus.writing = false) : Change c s s.beginSave
  | endSave (t : State) (hc : c = .profileSaveDone) (ht : execProfileSaveDone s = .next t) : Change c s t
  | failSave (n : Nat) (t : State) (hc : c = .profileSaveFailed n) (ht : execProfileSaveFailed n s = .next t) :
      Change c s t
  | loadProfile (a : Bool) (t : State) (hc : c = .profileLoad a) (ht : execProfileLoad a s = .next t) : Change c s t
  | reset (t : State) (hc : c = .deviceReset) (ht : execDeviceReset s = .next t) : Change c s t
  | clearLine (hc : c = .lineClear) : Change c s s.clearVolumes.clearLine.repace

/-- What a command can do to the part: changes one after another. -/
abbrev Changes (c : Instr) : State → State → Prop := Relation.ReflTransGen (Change c)

/-- R48, R52, R53: the state `u` is `s` with one block admitted. -/
def State.Admits (s u : State) : Prop :=
  ∃ n serial raw e, s.fill < 64 ∧ s.freeVolumeSlot = some n ∧ (∀ v ∈ s.volumes, v.serial ≠ serial) ∧
    ((∃ t, s.title? e.code = some t ∧ t.retiring = false) ∨
      (s.title? e.code = none ∧ (s.missList.length < 8 ∨ e.code ∈ s.missList))) ∧
    u = admitBlock n serial raw e.code (unitNumber e serial) s

variable {c : Instr} {s t : State}

theorem Changes.of_change (h : Change c s t) : Changes c s t := .single h

theorem Changes.then {u : State} (h : Changes c s t) (g : Change c t u) : Changes c s u := h.tail g

/-- An evaluation that answers makes the changes of what it answers. -/
theorem Changes.of_some {a : Answer} {r : State × Answer} (e : some (t, a) = some r) (h : Changes c s r.1) :
    Changes c s t := by
  cases e
  exact h

/-! ### Ports and notices -/

theorem changes_updStation (l : Line) (f : StationLine → StationLine) : Changes c s (s.updStation l f) :=
  .single (.ports (s.stations.modify l.val f) s.supervisor (by simp))

theorem changes_setSlot (l : Line) (x : Slot) : Changes c s (s.setSlot l x) := changes_updStation l _

theorem changes_pushAnswer (l : Line) (a : Answer) (q : Bool) : Changes c s (s.pushAnswer l a q) :=
  changes_updStation l _

theorem changes_answerSlot (l : Line) (a : Answer) : Changes c s (s.answerSlot l a) :=
  (changes_pushAnswer l a true).trans (changes_setSlot l .answered)

theorem changes_shiftOut (bytes : List Byte) : Changes c s (s.shiftOut bytes) :=
  .single (.ports s.stations _ rfl)

theorem changes_setAnswerSlot (x : SupervisorSlot) : Changes c s (s.setAnswerSlot x) :=
  .single (.ports s.stations _ rfl)

theorem changes_immediately (l : Line) (k : State → State × Answer) (h : Changes c s (k s).1) :
    Changes c s (s.immediately l k) := by
  obtain ⟨-, e⟩ | ⟨-, e⟩ := s.immediately_cases l k <;> rw [e]
  exact h.trans (changes_pushAnswer l _ false)

theorem changes_receive (l : Line) (k : Kind) (body : State → State) (h : Changes c s (body s)) :
    Changes c s (s.receive l k body) := by
  obtain ⟨-, e⟩ | ⟨-, -, e⟩ | ⟨-, -, e⟩ := s.receive_cases l k body <;> rw [e]
  · exact h
  · exact changes_immediately l _ .refl

theorem changes_checked (l : Line) (k : Kind) (good : Bool) (body : State → State) (h : Changes c s (body s)) :
    Changes c s (State.checked l k good body s) := by
  unfold State.checked
  split
  · exact h
  · exact changes_immediately l _ .refl

/-- R175: a request makes the changes its block makes, in the state its block is handed. -/
theorem changes_request (k : State → State × Answer)
    (h : ∀ u : State, u.phase ≠ .loading → Changes c u (k u).1) : Changes c s (s.request k) := by
  obtain ⟨-, e⟩ | ⟨hphase, -, e⟩ | ⟨-, -, e⟩ := s.request_cases k <;> rw [e]
  · exact changes_shiftOut _
  · have hblock := h ((s.shiftOut s.stateByte).setAnswerSlot .working) hphase
    exact ((changes_shiftOut s.stateByte).trans (changes_setAnswerSlot .working)).trans
      (hblock.trans (changes_setAnswerSlot _))
  · exact changes_shiftOut _

theorem changes_postReport (l : Line) (k : Kind) (good : Bool) (r : Report) :
    Changes c s (s.postReport l k good r) := by
  obtain e | e | ⟨hroom, e⟩ | e := s.postReport_cases l k good r <;> rw [e]
  · exact changes_pushAnswer ..
  · exact (Changes.of_change (.post _ hroom)).trans (changes_pushAnswer ..)
  · exact changes_pushAnswer ..

/-! ### Volume records -/

theorem changes_annotate (n : Nat) (f : Volume → Volume) (hf : ∀ v : Volume, v.Annotated (f v)) :
    Changes c s (s.updVolume n f) :=
  .single (.annotate _ fun v => (hf v).ite)

theorem State.mem_of_volume? {n : Nat} {v : Volume} (h : s.volume? n = some v) : v ∈ s.volumes ∧ v.number = n :=
  ⟨List.mem_of_find?_eq_some h, by simpa using List.find?_some h⟩

theorem State.volume?_of_mem_postPressVolumes {v : Volume} (h : v ∈ s.postPressVolumes) :
    s.volume? v.number = some v := by
  obtain ⟨n, -, hn⟩ := List.mem_filterMap.1 h
  rwa [(State.mem_of_volume? hn).2]

/-- R46: the caser's front waits for its title or its case. -/
theorem State.caserFront_mem {v : Volume} (h : s.caserFront = some v) :
    v ∈ s.volumes ∧ (v.state = .awaitTitle ∨ v.state = .awaitCase) :=
  ⟨List.mem_of_find?_eq_some h, by simpa using List.find?_some h⟩

theorem State.shuttleFront_mem {v : Volume} (h : s.shuttleFront = some v) : v ∈ s.volumes ∧ v.state = .cased :=
  ⟨List.mem_of_find?_eq_some h, by simpa using List.find?_some h⟩

theorem State.jacketerFront_mem {v : Volume} (h : s.jacketerFront = some v) :
    v ∈ s.volumes ∧ v.state = .awaitJacket :=
  ⟨(State.mem_of_volume? (State.volume?_of_mem_postPressVolumes (List.mem_of_find?_eq_some h))).1,
    by simpa using List.find?_some h⟩

theorem State.onOutfeed_mem {v : Volume} (h : v ∈ s.onOutfeed) :
    s.volume? v.number = some v ∧ v ∈ s.volumes ∧ v.state = .onOutfeed := by
  obtain ⟨hv, hst⟩ := List.mem_filter.1 h
  have hfound := State.volume?_of_mem_postPressVolumes hv
  exact ⟨hfound, (State.mem_of_volume? hfound).1, by simpa using hst⟩

theorem State.taggedIn_mem {st : VolumeState} {tag : Tag} {v : Volume} (h : s.taggedIn st tag = some v) :
    v ∈ s.volumes ∧ v.state = st ∧ v.caseTag = some tag := by
  have := List.find?_some h
  simp only [Bool.and_eq_true, beq_iff_eq] at this
  exact ⟨List.mem_of_find?_eq_some h, this⟩

/-- R58: a removal reads no more of the record than its number, its title and whether it is bound. -/
theorem State.removeVolume_congr (k : Removal) {v w : Volume} (hn : w.number = v.number) (hb : w.bound = v.bound)
    (ht : w.title = v.title) : s.removeVolume k v = s.removeVolume k w := by
  simp only [State.removeVolume, hn, hb, ht]

/-! ### CASE_CALL -/

/-- R88, R137: a usable match stands at its depth in the window, and fits. -/
theorem usableMatch_entry {p : WindowEntry → Bool} {skip k : Nat} {w : List WindowEntry} {e : WindowEntry}
    (h : usableMatch p skip w = some (k, e)) : w[k]? = some e ∧ p e = true := by
  unfold usableMatch at h
  split at h
  · cases h
  · next e' k' hfind =>
    split at h
    · cases h
      exact ⟨List.mem_zipIdx_iff_getElem?.1 (List.mem_of_find?_eq_some hfind), by simpa using List.find?_some hfind⟩
    · cases h

/-- R87, R88: the match found for a volume stands in the case window, clear of DOUBLE. -/
theorem State.caseMatchFor_entry {v : Volume} {k : Nat} {e : WindowEntry} (h : s.caseMatchFor v = some (k, e)) :
    s.caseWindow[k]? = some e ∧ e.double = false := by
  unfold State.caseMatchFor at h
  split at h
  · cases h
  · obtain ⟨hentry, hfit⟩ := usableMatch_entry h
    simp only [caseMatches, Bool.and_eq_true, Bool.not_eq_true'] at hfit
    exact ⟨hentry, hfit.1.1⟩

theorem changes_divertAtCaser {v : Volume} (r : Reason) (hv : v ∈ s.volumes) (hst : v.state.inBay = false) :
    Changes c s (divertAtCaser v r s).1 :=
  (Changes.of_change (.remove .diverted v hv hst)).then (.raise .divert)

theorem changes_caseWaitCounted {v : Volume} (r : Reason) (hv : v ∈ s.volumes) (hst : v.state.inBay = false) :
    Changes c s (caseWaitCounted v r s).1 := by
  unfold caseWaitCounted
  split
  · exact changes_annotate _ _ fun v => { Volume.Annotated.refl v with }
  · exact changes_divertAtCaser r hv hst

theorem changes_evalCaseCall {last : Bool} {a : Answer} (h : evalCaseCall last s = some (t, a)) : Changes c s t := by
  obtain e | ⟨n, e⟩ | ⟨v, hfront, hcase⟩ := evalCaseCall_cases s last
  · simp [h] at e
  · obtain ⟨rfl, -⟩ : t = s ∧ a = _ := by simpa [h] using e
    exact .refl
  · obtain ⟨hv, hst⟩ := State.caserFront_mem hfront
    have hbay : v.state.inBay = false := by obtain e | e := hst <;> rw [e] <;> rfl
    obtain ⟨r, e⟩ | ⟨r, e⟩ | ⟨hne, k, w, hm, e⟩ := hcase <;> rw [h] at e
    · exact .of_some e (changes_divertAtCaser r hv hbay)
    · exact .of_some e (changes_caseWaitCounted r hv hbay)
    · obtain ⟨hentry, hclear⟩ := State.caseMatchFor_entry hm
      exact .of_some e (.single (.marry v k w hv (hst.resolve_left hne) hentry hclear))

/-! ### NEXT_MOVE -/

theorem earliest_mem {cs : List (Nat × Nat)} {p : Nat × Nat} (h : earliest cs = some p) : p ∈ cs := by
  have hfold : ∀ (cs : List (Nat × Nat)) (q : Nat × Nat), cs.foldl earlier q ∈ q :: cs := by
    intro cs
    induction cs with
    | nil => simp
    | cons d cs ih =>
      intro q
      have hpick : earlier q d = q ∨ earlier q d = d := by unfold earlier; split <;> simp
      have hrest := ih (earlier q d)
      simp only [List.foldl_cons, List.mem_cons] at hrest ⊢
      obtain e | hrest := hrest
      · rw [e]
        obtain e | e := hpick <;> simp [e]
      · exact .inr (.inr hrest)
  cases cs with
  | nil => simp [earliest] at h
  | cons q cs => exact Option.some.inj h ▸ hfold cs q

/-- R107: the unload candidate is a DONE bay. -/
theorem State.unloadCandidate_bay {e b : Nat} (h : s.unloadCandidate = some (e, b)) :
    ∃ r, s.bays[b]? = some r ∧ r.state = .done := by
  obtain ⟨⟨r, i⟩, hmem, hr⟩ := List.mem_filterMap.1 (earliest_mem h)
  have hbay : s.bays[i]? = some r := List.mem_zipIdx_iff_getElem?.1 hmem
  dsimp only at hr
  split at hr
  · next hst => cases hr; exact ⟨r, hbay, hst⟩
  · cases hr

/-- R108: the bay of the load candidate is VACANT. -/
theorem State.vacantBayFor_bay {w b : Nat} (h : s.vacantBayFor w = some b) :
    ∃ r, s.bays[b]? = some r ∧ r.state = .vacant := by
  obtain ⟨⟨since, b'⟩, hearliest, rfl⟩ := Option.map_eq_some_iff.1 h
  obtain ⟨⟨r, i⟩, hmem, hr⟩ := List.mem_filterMap.1 (earliest_mem hearliest)
  have hbay : s.bays[i]? = some r := List.mem_zipIdx_iff_getElem?.1 hmem
  dsimp only at hr
  split at hr
  · next hst => cases hr; exact ⟨r, hbay, hst.1⟩
  · cases hr

/-- R108: the load candidate is a CASED volume with a VACANT bay. -/
theorem State.loadCandidate_mem {v : Volume} {b : Nat} (h : s.loadCandidate = some (v, b)) :
    v ∈ s.volumes ∧ v.state = .cased ∧ ∃ r, s.bays[b]? = some r ∧ r.state = .vacant := by
  unfold State.loadCandidate at h
  split at h
  · cases h
  · split at h
    · cases h
    · next v' hfront =>
      obtain ⟨b', hbay, e⟩ := Option.map_eq_some_iff.1 h
      cases e
      exact ⟨(State.shuttleFront_mem hfront).1, (State.shuttleFront_mem hfront).2, State.vacantBayFor_bay hbay⟩

theorem changes_evalNextMove {last : Bool} {a : Answer} (h : evalNextMove last s = some (t, a)) : Changes c s t := by
  obtain ⟨e, -⟩ | ⟨e, -⟩ | ⟨due, b, hu, e⟩ | ⟨v, b, hl, e⟩ := evalNextMove_cases s last
  · simp [h] at e
  · obtain ⟨rfl, -⟩ : t = s ∧ a = _ := by simpa [h] using e
    exact .refl
  · rw [h] at e
    obtain ⟨r, hb, hr⟩ := State.unloadCandidate_bay hu
    exact .of_some e (.single (.unload b r hb hr))
  · rw [h] at e
    obtain ⟨hv, hst, r, hb, hr⟩ := State.loadCandidate_mem hl
    exact .of_some e (.single (.load v b r hv hst hb hr))

/-! ### GAUGE -/

/-- R132: the piece taken is the volume `w` of the table, which `v` tells by its number. -/
theorem changes_takeAtOutfeed {v w : Volume} (raw skipped : Nat) (returned : Bool) (hw : w ∈ s.volumes)
    (hn : w.number = v.number) (hb : w.bound = v.bound) (ht : w.title = v.title)
    (hst : w.state = .onOutfeed ∨ w.state = .missing) : Changes c s (takeAtOutfeed v raw skipped returned s).1 := by
  let f : Volume → Volume := fun u =>
    { u with tOut := some (thickness raw ((v.bound.map BindPart.wBook).getD 0))
             outUngauged := u.outUngauged || failedReading raw
             returned := u.returned || returned }
  have hf : ∀ u : Volume, u.Annotated (f u) := fun u =>
    { Volume.Annotated.refl u with outUngauged := fun h => by simp [f, h], returned := fun h => by simp [f, h] }
  have hgauged : Changes c s (s.updVolume v.number f) := changes_annotate _ _ hf
  have hmem : f w ∈ (s.updVolume v.number f).volumes := by
    rw [State.updVolume_volumes]
    exact List.mem_map.2 ⟨w, hw, if_pos hn⟩
  have hst' : (f w).state = .onOutfeed ∨ (f w).state = .missing := hst
  unfold takeAtOutfeed
  split
  · have hremove := (s.updVolume v.number f).removeVolume_congr .diverted (v := v) (w := f w) hn hb ht
    refine (hgauged.then (.remove .diverted (f w) hmem ?_)).trans ?_
    · obtain e | e := hst' <;> rw [e] <;> rfl
    · rw [← hremove]
      exact .single (.raise .divert)
  · have hpass := Change.pass (c := c) (f w) hmem hst'
    rw [show (f w).number = v.number from hn] at hpass
    exact hgauged.then hpass

theorem State.goMissing_volumes (n : Nat) :
    (s.goMissing n).volumes = s.volumes.map fun v => if v.number = n then { v with state := .missing } else v := by
  simp [State.goMissing]

/-- R130: every volume skipped goes MISSING, one after another. -/
theorem changes_skipToMissing (ahead : List Volume)
    (h : ∀ u ∈ ahead, ∃ w ∈ s.volumes, w.number = u.number ∧ (w.state = .onOutfeed ∨ w.state = .missing)) :
    Changes c s (skipToMissing ahead s) := by
  induction ahead generalizing s with
  | nil => exact .refl
  | cons u us ih =>
    obtain ⟨w, hw, hn, hst⟩ := h u (by simp)
    have hmiss := Change.miss (c := c) w hw hst
    rw [hn] at hmiss
    refine (Changes.of_change hmiss).trans (ih fun u' hu' => ?_)
    obtain ⟨w', hw', hn', hst'⟩ := h u' (by simp [hu'])
    rw [State.goMissing_volumes]
    by_cases e : w'.number = u.number
    · exact ⟨_, List.mem_map.2 ⟨w', hw', if_pos e⟩, hn', .inr rfl⟩
    · exact ⟨_, List.mem_map.2 ⟨w', hw', if_neg e⟩, hn', hst'⟩

/-- R130: a volume that is not among those skipped keeps its record. -/
theorem State.mem_volumes_skipToMissing (ahead : List Volume) {v : Volume} (hv : v ∈ s.volumes)
    (h : ∀ u ∈ ahead, v.number ≠ u.number) : v ∈ (skipToMissing ahead s).volumes := by
  induction ahead generalizing s with
  | nil => exact hv
  | cons u us ih =>
    refine ih (s := s.goMissing u.number) ?_ fun u' hu' => h u' (by simp [hu'])
    rw [State.goMissing_volumes]
    exact List.mem_map.2 ⟨v, hv, if_neg (h u (by simp))⟩

theorem changes_evalGauge {tag : Option Tag} {raw : Nat} {last : Bool} {a : Answer}
    (h : evalGauge tag raw last s = some (t, a)) : Changes c s t := by
  obtain e | e | e | ⟨v, vs, hout, e⟩ | ⟨g, ahead, v, vs, -, hspan, e⟩ | ⟨g, v, -, hfound, e⟩ :=
    evalGauge_cases s tag raw last <;> rw [h] at e
  · cases e
  · cases e; exact .refl
  · cases e; exact .single (.raise .stray)
  · obtain ⟨-, hv, hst⟩ := State.onOutfeed_mem (s := s) (v := v) (by simp [hout])
    have hflag : Changes c s (s.updVolume v.number fun u => { u with unverified := true }) :=
      changes_annotate _ _ fun u => { Volume.Annotated.refl u with unverified := fun _ => rfl }
    refine .of_some e (hflag.trans
      (changes_takeAtOutfeed (v := v) (w := { v with unverified := true }) raw 0 false ?_ rfl rfl rfl (.inl hst)))
    rw [State.updVolume_volumes]
    exact List.mem_map.2 ⟨v, hv, if_pos rfl⟩
  · rw [List.span_eq_takeWhile_dropWhile, Prod.mk.injEq] at hspan
    obtain ⟨hahead, hrest⟩ := hspan
    have hsplit : s.onOutfeed = ahead ++ v :: vs := by
      rw [← hahead, ← hrest, List.takeWhile_append_dropWhile]
    have hout (u : Volume) (hu : u ∈ ahead ++ [v]) := State.onOutfeed_mem (s := s) (v := u) (by
      rw [hsplit]; simp only [List.mem_append, List.mem_cons] at hu ⊢; tauto)
    obtain ⟨hv, hmem, hst⟩ := hout v (by simp)
    have htag : v.caseTag = some g := by
      have := List.head?_dropWhile_not (fun v : Volume => v.caseTag != some g) s.onOutfeed
      rw [hrest] at this
      simpa using this
    have hne : ∀ u ∈ ahead, v.number ≠ u.number := by
      intro u hu en
      obtain ⟨hu', -, -⟩ := hout u (by simp [hu])
      have huv : u = v := Option.some.inj (by rw [← hu', ← en, hv])
      rw [← hahead] at hu
      have := List.mem_takeWhile_imp hu
      simp [huv, htag] at this
    refine .of_some e ((changes_skipToMissing ahead fun u hu => ?_).trans
      (changes_takeAtOutfeed raw _ false (State.mem_volumes_skipToMissing ahead hmem hne) rfl rfl rfl (.inl hst)))
    obtain ⟨-, hu', hst'⟩ := hout u (by simp [hu])
    exact ⟨u, hu', rfl, .inl hst'⟩
  · obtain ⟨hv, hst, -⟩ := State.taggedIn_mem hfound
    exact .of_some e (changes_takeAtOutfeed raw 0 true hv rfl rfl rfl (.inr hst))

/-! ### FOLD_CALL -/

theorem changes_bareDelivery {v : Volume} (eject : Nat) (why : BareReason) (w : List WindowEntry) (hv : v ∈ s.volumes)
    (hst : v.state = .awaitJacket) (hw : w.length ≤ s.jacketWindow.length) :
    Changes c s (bareDelivery v eject why w s).1 :=
  ((Changes.of_change (.jackets w (.inr hw))).then (.finish v _ hv hst)).then (.raise .bare)

theorem changes_foldAt {v : Volume} (m : Marry) (j : JacketPart) (k : Nat) (tag : Tag) (hv : v ∈ s.volumes)
    (hst : v.state = .awaitJacket) : Changes c s (foldAt v m j k tag s).1 := by
  unfold foldAt
  split
  · exact (Changes.of_change (.jackets (s.jacketWindow.drop (k + 1)) (.inr (by simp)))).then (.finish v _ hv hst)
  · split
    · exact changes_bareDelivery _ _ _ hv hst (by simp)
    · exact changes_bareDelivery _ _ _ hv hst (by simp)

theorem changes_foldWaitCounted {v : Volume} (hv : v ∈ s.volumes) (hst : v.state = .awaitJacket) :
    Changes c s (foldWaitCounted v s).1 := by
  unfold foldWaitCounted
  split
  · exact changes_annotate _ _ fun v => { Volume.Annotated.refl v with }
  · exact changes_bareDelivery _ _ _ hv hst le_rfl

theorem changes_evalFoldCall {last : Bool} {a : Answer} (h : evalFoldCall last s = some (t, a)) : Changes c s t := by
  obtain e | ⟨n, e⟩ | ⟨v, hfront, hcase⟩ := evalFoldCall_cases s last
  · simp [h] at e
  · obtain ⟨rfl, -⟩ : t = s ∧ a = _ := by simpa [h] using e
    exact .refl
  · obtain ⟨hv, hst⟩ := State.jacketerFront_mem hfront
    obtain e | ⟨u, j, k, w, -, e⟩ | e | e := hcase <;> rw [h] at e
    · exact .of_some e (.single (.finish v .plain hv hst))
    · exact .of_some e (changes_foldAt _ j k _ hv hst)
    · exact .of_some e (changes_foldWaitCounted hv hst)
    · exact .of_some e (changes_bareDelivery _ _ _ hv hst le_rfl)

/-! ### Slots and evaluations -/

theorem changes_evalQuery {q : Query} {last : Bool} {a : Answer} (h : evalQuery q last s = some (t, a)) :
    Changes c s t := by
  cases q with
  | caseCall => exact changes_evalCaseCall h
  | nextMove => exact changes_evalNextMove h
  | gauge tag raw => exact changes_evalGauge h
  | foldCall => exact changes_evalFoldCall h

theorem changes_settle (l : Line) (h : HeldQuery) (q : Query) (last : Bool) :
    Changes c s (s.settle l h (evalQuery q last s)) := by
  obtain ⟨-, e⟩ | ⟨u, a, hu, e⟩ := s.settle_cases l h (evalQuery q last s) <;> rw [e]
  · exact changes_setSlot _ _
  · exact (changes_evalQuery hu).trans (changes_answerSlot l a)

theorem changes_reevaluate (k : Query → Bool) : Changes c s (s.reevaluate k) := by
  obtain ⟨-, e⟩ | ⟨l, h, -, e⟩ := s.reevaluate_cases k <;> rw [e]
  exact changes_settle l h _ false

theorem changes_afterFront (before : State) : Changes c s (s.afterFront before) := by
  obtain e | e := s.afterFront_cases before <;> rw [e]
  exact changes_reevaluate _

theorem changes_evaluate (l : Line) (h : HeldQuery) (last : Bool) : Changes c s (s.evaluate l h last) :=
  (changes_settle l h h.query last).trans (changes_afterFront s)

theorem changes_reevaluateGauge : Changes c s s.reevaluateGauge :=
  (changes_reevaluate _).trans (changes_afterFront s)

theorem changes_takeQuery (l : Line) (k : Kind) (q : Query) (n : Nat) : Changes c s (s.takeQuery l k q n) := by
  obtain ⟨h, -, -, -, -, e⟩ | ⟨h, -, -, -, -, e⟩ | e := s.takeQuery_cases l k q n <;> rw [e]
  · exact changes_evaluate l h false
  · exact changes_setSlot l _
  · exact changes_immediately l _ .refl

theorem changes_reportApplied (l : Line) : Changes c s (s.reportApplied l) := by
  obtain e | ⟨h, n, -, e | e⟩ := s.reportApplied_cases l <;> rw [e]
  · exact changes_evaluate l h false
  · exact changes_setSlot l _

theorem changes_release (old new : Pace) : Changes c s (s.release old new) := by
  obtain e | e | e | e := s.release_cases old new <;> rw [e]
  · exact changes_reevaluate _
  · exact (changes_reevaluate _).trans (changes_reevaluate _)
  · exact ((changes_reevaluate _).trans (changes_reevaluate _)).trans (changes_reevaluate _)

/-- R147, R156: what makes the state paced anew, then the queries that its rise releases. -/
theorem changes_repaceReleasing {u : State} (h : Change c s u.repace) : Changes c s u.repaceReleasing :=
  (Changes.of_change h).trans (changes_release _ _)

/-- R168: the report at the head leaves the queue, its effect is made, and the line's query comes nearer. -/
theorem changes_applyHead (effect : Report → Option (State → State))
    (h : ∀ r f, effect r = some f → ∀ u : State, Changes c u (f u)) : Changes c s (s.applyHead effect) := by
  obtain e | ⟨p, rest, f, hhead, hf, e⟩ := s.applyHead_cases effect <;> rw [e]
  exact ((Changes.of_change (.unpost p rest hhead)).trans (h _ f hf _)).trans (changes_reportApplied _)

end Sys2Proof.Machine

/-! SUPPORT. Every command is at most one admission and a chain of changes. -/

namespace Sys2Proof.Machine

variable {c : Instr} {s t : State}

/-! ### Frames and answers -/

theorem changes_badFrame {p : Port} {cause : BadFrame} (h : execBadFrame p cause s = .next t) : Changes c s t := by
  cases p <;> cases h
  · exact .refl
  · exact changes_shiftOut _

theorem changes_frameRefused {p : Port} {kind tag : Nat} {body : List Byte}
    (h : execFrameRefused p kind tag body s = .next t) : Changes c s t := by
  unfold execFrameRefused at h
  split at h
  · cases h; exact .refl
  · split at h
    · split at h <;> cases h
      · exact .refl
      · exact changes_immediately _ _ .refl
    · cases h
      exact changes_request _ fun u _ => .refl

theorem changes_answerSend {l : Line} (h : execAnswerSend l s = .next t) : Changes c s t := by
  unfold execAnswerSend at h
  split at h <;> cases h
  · exact .refl
  · exact changes_updStation _ _

theorem changes_answerCollision {l : Line} {n : Nat} (h : execAnswerCollision l n s = .next t) : Changes c s t := by
  unfold execAnswerCollision at h
  split at h <;> cases h
  · exact .refl
  · exact changes_updStation _ _

theorem changes_answerRead {n : Nat} (h : execAnswerRead n s = .next t) : Changes c s t := by
  unfold execAnswerRead at h
  split at h
  · cases h; exact changes_shiftOut _
  · split at h
    · cases h
      split
      · exact (changes_shiftOut _).trans (changes_setAnswerSlot _)
      · exact changes_shiftOut _
    · cases h; exact changes_shiftOut _

/-! ### Reports applied -/

theorem changes_applyCaseSeen (tag : Tag) : Changes c s (applyCaseSeen tag s) := by
  unfold applyCaseSeen
  split
  · exact .single (.raise .misreport)
  · next h =>
    simp only [Config.caseWindowSize] at h
    exact (Changes.of_change (.seeCase tag (by omega))).trans (changes_reevaluate _)

theorem changes_applyJacketSeen (tag : Tag) : Changes c s (applyJacketSeen tag s) := by
  unfold applyJacketSeen
  split
  · exact .single (.raise .misreport)
  · next h =>
    simp only [Config.jacketWindowSize] at h
    refine (Changes.of_change (.jackets _ (.inl ?_))).trans (changes_reevaluate _)
    simp only [List.length_append, List.length_singleton]
    omega

/-- R99, R100, R145: a report finds a volume of the table in the state it fits, or is discarded. -/
theorem changes_onVolumeIn (n : Nat) (st : VolumeState) (effect : Volume → State → State)
    (h : ∀ v ∈ s.volumes, v.state = st → Changes c s (effect v s)) : Changes c s (s.onVolumeIn n st effect) := by
  unfold State.onVolumeIn
  split
  · exact .single (.raise .misreport)
  · next v hv =>
    split
    · next hst => exact h v (State.mem_of_volume? hv).1 hst
    · exact .single (.raise .misreport)

theorem changes_applyCased (n : Nat) : Changes c s (applyCased n s) :=
  changes_onVolumeIn n _ _ fun v hv hst => (Changes.of_change (.cased v hv hst)).trans (changes_reevaluate _)

theorem changes_applyCaseSpoiled (n : Nat) : Changes c s (applyCaseSpoiled n s) :=
  changes_onVolumeIn n _ _ fun v hv hst => .single (.remove _ v hv (by rw [hst]; rfl))

theorem changes_applyDelivered (n : Nat) : Changes c s (applyDelivered n s) :=
  changes_onVolumeIn n _ _ fun v hv hst => .single (.remove _ v hv (by rw [hst]; rfl))

/-- R105: a volume whose bay goes on from one occupied state to the next. -/
theorem staged_setState {old new : BayState} (st : VolumeState) (hst : heldState new = some st)
    (hwait : st ≠ .awaitTitle) (hemptying : new = .emptying ↔ old = .emptying) :
    Staged old new fun v => { v with state := st } where
  moved v := { Volume.Moved.refl v with waiting := fun h => absurd h hwait }
  bay _ := rfl
  state _ _ := hst
  emptying := hemptying

theorem staged_id (a : BayState) : Staged a a id where
  moved := Volume.Moved.refl
  bay _ := rfl
  state _ h := h
  emptying := Iff.rfl

theorem State.updVolume_id (n : Nat) : s.updVolume n id = s := by simp [State.updVolume]

theorem State.updBayVolume_id (r : Bay) : s.updBayVolume r id = s := by
  unfold State.updBayVolume
  split
  · rfl
  · exact State.updVolume_id _

/-- R120, R122: a bay in an occupied state takes or loses a mark, and its volume is left alone. -/
theorem change_markBay {b : Nat} {r r' : Bay} (hb : s.bays[b]? = some r) (hr : r.state.isOccupied = true)
    (hst : r'.state = r.state) (hvol : r'.volume = r.volume) : Change c s (s.setBay b r') := by
  have h := Change.stage (c := c) b r r' id hb hr (by rw [hst]; exact hr) hvol (by rw [hst]; exact staged_id _)
  rwa [State.updBayVolume_id] at h

theorem changes_applyBayClosed (b : Nat) : Changes c s (applyBayClosed b s) := by
  unfold applyBayClosed
  split
  · exact .single (.raise .misreport)
  · next r hb =>
    split
    · next hr =>
      exact .single (.stage b r _ _ hb (by rw [hr]; rfl) rfl rfl
        (staged_setState .pressing rfl (by decide) (by simp [hr])))
    · exact .single (.raise .misreport)

/-- R134: a held NEXT_MOVE comes up where a condition holds. -/
theorem changes_ite_reevaluate {p : Prop} [Decidable p] (k : Query → Bool) :
    Changes c s (if p then s.reevaluate k else s) := by
  split
  · exact changes_reevaluate k
  · exact .refl

theorem changes_applyBayCleared (b : Nat) : Changes c s (applyBayCleared b s) := by
  unfold applyBayCleared
  split
  · exact .single (.raise .misreport)
  · next r hb =>
    split
    · next hr =>
      have hempty (was : Bool) := Changes.of_change (Change.empty (c := c) b r was hb hr)
      have hpaced : Changes c s
          (if r.faultPending then
            State.levelRises .bayFault s.anyFaulted ((s.setBay b (emptiedBay s.clock r)).updBayVolume r fun v =>
              { v with state := .onOutfeed, bay := none })
          else (s.setBay b (emptiedBay s.clock r)).updBayVolume r fun v =>
              { v with state := .onOutfeed, bay := none }).repace := by
        split
        · exact hempty _
        · exact hempty true
      exact (hpaced.trans (changes_ite_reevaluate _)).trans changes_reevaluateGauge
    · exact .single (.raise .misreport)

theorem changes_applyBayFault (b : Nat) : Changes c s (applyBayFault b s) := by
  unfold applyBayFault
  split
  · exact .refl
  · next r hb =>
    split
    case _ hr => exact .single (.idleBay b r _ _ hb (by rw [hr]; rfl) rfl (.inl rfl))
    case _ hr => exact (Changes.of_change (.reject b r _ hb hr)).trans (changes_reevaluate _)
    case _ hr =>
      have hstage := Change.stage (c := c) b r { r.finish s.clock s.profile.overdwell with faultPending := true }
        (fun v => { v with state := .pressed, pressFault := true }) hb (by rw [hr]; rfl) rfl rfl
        { moved := fun v => { Volume.Moved.refl v with pressFault := fun _ => rfl, waiting := fun h => by cases h }
          bay := fun _ => rfl, state := fun _ _ => rfl, emptying := by simp [hr, Bay.finish] }
      exact (Changes.of_change hstage).trans (changes_reevaluate _)
    case _ hr => exact .single (change_markBay hb (by rw [hr]; rfl) rfl rfl)
    case _ hr => exact .single (change_markBay hb (by rw [hr]; rfl) rfl rfl)
    · exact .refl
    · exact .refl

/-! ### Queries and timers -/

theorem State.dwellEnds_eq (b : Nat) (r : Bay) : s.dwellEnds b r =
    ((s.setBay b (r.finish (r.expiry.getD 0) s.profile.overdwell)).updBayVolume r fun v =>
      { v with state := .pressed }).reevaluate Query.isNextMove := by
  unfold State.dwellEnds State.updBayVolume
  cases r with
  | mk st vol => cases vol <;> rfl

theorem changes_dwellEnds {b : Nat} {r : Bay} (hb : s.bays[b]? = some r) (hr : r.state = .closed) :
    Changes c s (s.dwellEnds b r) := by
  have hstage := Change.stage (c := c) b r (r.finish (r.expiry.getD 0) s.profile.overdwell) _ hb
    (by rw [hr]; rfl) rfl rfl (staged_setState .pressed rfl (by decide) (by simp [hr, Bay.finish]))
  rw [State.dwellEnds_eq]
  exact (Changes.of_change hstage).trans (changes_reevaluate _)

theorem changes_dwellExpiry {b : Fin 16} (h : execDwellExpiry b s = .next t) : Changes c s t := by
  unfold execDwellExpiry at h
  split at h
  · cases h; exact .refl
  · next r hb =>
    split at h <;> cases h
    · next hr => exact (Changes.of_change (.clock _)).trans (changes_dwellEnds hb hr)
    · exact .refl

theorem State.overpress_eq (b : Nat) (r : Bay) : s.overpress b r = State.raise .overpress
    ((s.setBay b { r with overdwellDue := none }).updBayVolume r fun v => { v with overpressed := true }) := by
  unfold State.overpress State.updBayVolume
  cases r with
  | mk st vol => cases vol <;> rfl

theorem changes_overpress {b : Nat} {r : Bay} (hb : s.bays[b]? = some r) (hr : r.state = .done) :
    Changes c s (s.overpress b r) := by
  have hstage := Change.stage (c := c) b r { r with overdwellDue := none }
    (fun v => { v with overpressed := true }) hb (by rw [hr]; rfl) (by dsimp only; rw [hr]; rfl) rfl
    { moved := fun v => { Volume.Moved.refl v with overpressed := fun _ => rfl }
      bay := fun _ => rfl, state := fun _ h => h, emptying := Iff.rfl }
  rw [State.overpress_eq]
  exact (Changes.of_change hstage).then (.raise _)

theorem changes_overdwellExpiry {b : Fin 16} (h : execOverdwellExpiry b s = .next t) : Changes c s t := by
  unfold execOverdwellExpiry at h
  split at h
  · cases h; exact .refl
  · next r hb =>
    split at h
    · cases h; exact .refl
    · split at h <;> cases h
      · next hr => exact (Changes.of_change (.clock _)).trans (changes_overpress hb hr)
      · exact .refl

theorem changes_holdLimitExpiry {l : Line} (h : execHoldLimitExpiry l s = .next t) : Changes c s t := by
  unfold execHoldLimitExpiry at h
  split at h <;> cases h
  · exact (Changes.of_change (.clock _)).trans (changes_evaluate _ _ _)
  · exact (Changes.of_change (.clock _)).trans (changes_answerSlot _ _)
  · exact .refl

/-- R147: a governor that keeps its request and its latches, with the pace computed anew. -/
theorem changes_govern (g : Governor) (hreq : g.requested = s.governor.requested)
    (hguard : s.governor.guardLatch = true → g.guardLatch = true)
    (hglue : s.governor.glueLatch = true → g.glueLatch = true) :
    Changes c s (State.repaceReleasing { s with governor := g }) :=
  changes_repaceReleasing (.govern g true hreq hguard hglue)

theorem changes_idleTimerExpiry (h : execIdleTimerExpiry s = .next t) : Changes c s t := by
  unfold execIdleTimerExpiry at h
  split at h <;> cases h
  · exact .refl
  · next due _ =>
    refine (Changes.of_change (.clock due)).trans ?_
    unfold State.stepDownFalls
    split
    · exact changes_govern _ rfl id id
    · exact changes_govern _ rfl id id

theorem changes_recoveryPeriodEnd (h : execRecoveryPeriodEnd s = .next t) : Changes c s t := by
  unfold execRecoveryPeriodEnd at h
  split at h <;> cases h
  · exact .refl
  · exact (Changes.of_change (.clock _)).trans (changes_govern _ rfl id id)
  · exact (Changes.of_change (.clock _)).trans (changes_govern _ rfl id id)

/-! ### Condition lines -/

/-- R150, R160: a level is kept while loading; else its effect on the governor has the pace computed anew. -/
theorem changes_takeLevel (set : ConditionLines → ConditionLines) (effect : State → State)
    (h : Changes c s (effect { s with governor := { s.governor with lines := set s.governor.lines } }).repaceReleasing) :
    Changes c s (s.takeLevel set effect) := by
  unfold State.takeLevel
  dsimp only
  split
  · next hquiet =>
    obtain hphase | hsame := hquiet
    · exact .single (.levels _ hphase)
    · rw [hsame]
  · exact h

theorem changes_glueReadyChange (x : Bool) (h : execGlueReadyChange x s = .next t) : Changes c s t := by
  cases h
  refine changes_takeLevel _ _ ?_
  cases x
  · have h := Change.govern (c := c) (s := s)
      { s.governor with lines := { s.governor.lines with glueReady := false }, glueLatch := true } s.anyLatch rfl id
      fun _ => rfl
    change Changes c s (State.glueOnset _).repaceReleasing
    unfold State.glueOnset
    split
    · exact changes_repaceReleasing h
    · exact changes_govern _ rfl id id
  · exact changes_govern _ rfl id id

theorem changes_platenLowChange (x : Bool) (h : execPlatenLowChange x s = .next t) : Changes c s t := by
  cases h
  refine changes_takeLevel _ _ ?_
  split
  · unfold State.platenLowOnset
    split
    · exact changes_govern _ rfl id id
    · exact changes_govern _ rfl id id
  · exact changes_govern _ rfl id id

theorem changes_platenColdChange (x : Bool) (h : execPlatenColdChange x s = .next t) : Changes c s t := by
  cases h
  exact changes_takeLevel _ _ (changes_govern _ rfl id id)

theorem changes_guardOpenChange (x : Bool) (h : execGuardOpenChange x s = .next t) : Changes c s t := by
  cases h
  refine changes_takeLevel _ _ ?_
  split
  · exact changes_repaceReleasing (.govern { s.governor with lines := _, guardLatch := true } _ rfl (fun _ => rfl) id)
  · exact changes_govern _ rfl id id

/-! ### Title requests -/

theorem State.mem_of_title? {code : Nat} {u : Title} (h : s.title? code = some u) : u ∈ s.titles ∧ u.code = code :=
  ⟨List.mem_of_find?_eq_some h, by simpa using List.find?_some h⟩

theorem changes_afterLoad (code : Nat) (before : State) : Changes c s (s.afterLoad code before) := by
  obtain e | e := s.afterLoad_cases code before <;> rw [e]
  exact changes_reevaluate _

theorem changes_loadTitle (code : Nat) (g : GeometryGroup) (p : ProcessGroup) :
    Changes c s (loadTitle code g p s).1 := by
  unfold loadTitle
  split
  · exact .refl
  · split
    · exact .refl
    · next hcode =>
      split
      · exact .refl
      · split
        · exact .refl
        · next slot victim hslot =>
          exact (Changes.of_change (.storeTitle slot code g p victim (by simpa using hcode) hslot)).trans
            (changes_afterLoad _ _)

/-- R1: a title request changes nothing, or does what it does with the title it names. -/
theorem changes_onTitle (k : Kind) (code : Nat) (f : Title → State → State × Answer)
    (h : ∀ u, s.title? code = some u → Changes c s (f u s).1) : Changes c s (onTitle k code f s).1 := by
  unfold onTitle
  split
  · exact .refl
  · split
    · exact .refl
    · next u hu => exact h u hu

theorem sameCounts_amendTitle (p : Option ProcessGroup) (g : Option GeometryGroup) (u : Title) :
    u.SameCounts (amendTitle p g u) ∧ (amendTitle p g u).retiring = u.retiring ∧ (amendTitle p g u).hold = u.hold := by
  cases p <;> cases g <;> exact ⟨⟨rfl, rfl, rfl, rfl, rfl, rfl, rfl, rfl⟩, rfl, rfl⟩

theorem changes_amendRequest (code : Nat) (p : Option ProcessGroup) (g : Option GeometryGroup) :
    Changes c s (amendRequest code p g s).1 := by
  unfold amendRequest
  split
  · exact .refl
  · refine changes_onTitle _ _ _ fun u hu => ?_
    split
    · exact .refl
    · split
      · exact .refl
      · refine (Changes.of_change (.retitle code u _ hu (fun u => (sameCounts_amendTitle p g u).1) fun h => ?_)).then
          (.touch code)
        obtain ⟨-, hret, hhold⟩ := sameCounts_amendTitle p g u
        exact .inl ⟨hret ▸ h, hhold⟩

theorem changes_holdRequest (code : Nat) : Changes c s (holdRequest code s).1 :=
  changes_onTitle _ _ _ fun u hu => by
    split
    · exact .refl
    · next hret =>
      exact .single (.retitle code u _ hu (fun u => ⟨rfl, rfl, rfl, rfl, rfl, rfl, rfl, rfl⟩) fun h => absurd h hret)

theorem changes_freeRequest (code : Nat) : Changes c s (freeRequest code s).1 :=
  changes_onTitle _ _ _ fun w hw =>
    .single (.retitle code w _ hw (fun _ => ⟨rfl, rfl, rfl, rfl, rfl, rfl, rfl, rfl⟩) fun h => .inr ⟨rfl, .inl h⟩)

theorem changes_retireRequest (code : Nat) : Changes c s (retireRequest code s).1 :=
  changes_onTitle _ _ _ fun u hu => by
    split
    · next hcount =>
      refine .single (.dropTitles _ fun w hw hdrop => ?_)
      obtain ⟨hmem, hcode⟩ := State.mem_of_title? hu
      have hsame : w.code = code := by simpa using hdrop
      exact ⟨u, hmem, hcode.trans hsame.symm, hcount⟩
    · next hcount =>
      exact .single (.retitle code u _ hu (fun u => ⟨rfl, rfl, rfl, rfl, rfl, rfl, rfl, rfl⟩)
        fun _ => .inr ⟨rfl, .inr (Nat.pos_of_ne_zero hcount)⟩)

/-- R4: a DORMANT title counts no volume. -/
theorem titleState_eq_dormant_iff (u : Title) :
    titleState u = .dormant ↔ u.retiring = false ∧ u.volumeCount = 0 ∧ u.hold = false := by
  unfold titleState
  cases u.retiring <;> cases u.hold <;> by_cases h : u.volumeCount = 0 <;> simp [h]

theorem changes_purgeRequest : Changes c s (purgeRequest s).1 := by
  refine .single (.dropTitles _ fun u hu hdrop => ⟨u, hu, rfl, ?_⟩)
  simp only [bne_eq_false_iff_eq, titleState_eq_dormant_iff] at hdrop
  exact hdrop.2.1

/-! ### Requests of the other blocks -/

theorem changes_setRangeRequest (i base k code unit : Nat) (hc : c = .rangeSet i base k code unit) :
    Changes c s (setRangeRequest i base k code unit s).1 := by
  unfold setRangeRequest
  split
  · exact .refl
  · next hgood =>
    dsimp only
    split
    · exact .refl
    · next hfree => exact .single (.setRange i base k code unit hc (by simpa using hgood) hfree)

theorem changes_clearRangeRequest (i : Nat) (hc : c = .rangeClear i) : Changes c s (clearRangeRequest i s).1 := by
  unfold clearRangeRequest onRange
  split
  · exact .refl
  · exact .single (.clearRange i _ hc rfl)

theorem readRangeRequest_state (q : RangeQuery) : (readRangeRequest q s).1 = s := by
  cases q with
  | index i => unfold readRangeRequest onRange; dsimp only; split <;> rfl
  | serial n => unfold readRangeRequest findSerialRequest; dsimp only; split <;> rfl

theorem readVolumeRequest_state (n : Nat) : (readVolumeRequest n s).1 = s := by
  unfold readVolumeRequest onVolume
  split
  · rfl
  · split <;> rfl

theorem findVolumeRequest_state (n : Nat) : (findVolumeRequest n s).1 = s := by
  unfold findVolumeRequest
  split <;> rfl

theorem changes_writeoffRequest (n : Nat) : Changes c s (writeoffRequest n s).1 := by
  unfold writeoffRequest onVolume
  split
  · exact .refl
  · split
    · exact .refl
    · next v hv =>
      dsimp only
      split
      · next hst => exact .single (.remove _ v (State.mem_of_volume? hv).1 (by rw [hst]; rfl))
      · exact .refl

theorem changes_serviceBay {b : Nat} {r : Bay} (goesIn : Bool) (hb : s.bays[b]? = some r) :
    Changes c s (serviceBay b r goesIn s) := by
  have hout : Changes c s (s.setBay b (bayOut r)).repace := by
    by_cases hr : r.state.isOccupied = true
    · have hmark : (bayOut r).state = r.state ∧ (bayOut r).volume = r.volume := by
        unfold bayOut; cases h : r.state <;> simp_all [BayState.isOccupied]
      exact (Changes.of_change (change_markBay hb hr hmark.1 hmark.2)).then .repace
    · have hidle : (bayOut r).state.isOccupied = false ∧ (bayOut r).volume = r.volume := by
        unfold bayOut; cases h : r.state <;> simp_all [BayState.isOccupied]
      exact .single (.idleBay b r _ true hb (by simpa using hr) hidle.1 (.inl hidle.2))
  have hin : Changes c s (s.setBay b (bayIn s.clock r)).repace := by
    by_cases hr : r.state.isOccupied = true
    · have hmark : (bayIn s.clock r).state = r.state ∧ (bayIn s.clock r).volume = r.volume := by
        unfold bayIn; cases h : r.state <;> simp_all [BayState.isOccupied]
      exact (Changes.of_change (change_markBay hb hr hmark.1 hmark.2)).then .repace
    · have hidle : (bayIn s.clock r).state.isOccupied = false
          ∧ ((bayIn s.clock r).volume = r.volume ∨ (bayIn s.clock r).volume = none) := by
        unfold bayIn; cases h : r.state <;> simp_all [BayState.isOccupied, Bay.unoccupied]
      exact .single (.idleBay b r _ true hb (by simpa using hr) hidle.1 hidle.2)
  unfold serviceBay
  cases goesIn
  · exact hout
  · exact hin.trans (changes_ite_reevaluate _)

theorem changes_serviceRequest (b d : Nat) : Changes c s (serviceRequest b d s).1 := by
  unfold serviceRequest
  split
  · exact .refl
  · next r hr =>
    have hb : s.bays[b]? = some r := by
      split at hr
      · exact hr
      · cases hr
    split
    · exact .refl
    · exact changes_serviceBay _ hb

theorem bayReadRequest_state (q : BayQuery) : (bayReadRequest q s).1 = s := by
  cases q with
  | bay b => unfold bayReadRequest readBayRequest; dsimp only; split <;> rfl
  | bank => rfl

theorem changes_setPaceRequest (n : Nat) (hc : c = .paceSet n) (hphase : s.phase ≠ .loading) :
    Changes c s (setPaceRequest n s).1 := by
  unfold setPaceRequest
  split
  · exact .refl
  · next p hp => exact changes_repaceReleasing (.setPace n p hc hphase)

theorem changes_releaseRequest (hc : c = .paceRelease) : Changes c s (releaseRequest s).1 :=
  changes_repaceReleasing (.releaseLatches hc)

theorem changes_enableRequest (m : Nat) (hc : c = .noticeEnable m) : Changes c s (enableRequest m s).1 := by
  unfold enableRequest
  split
  · exact .refl
  · exact .single (.writeEnables m _ hc)

theorem changes_clearRequest (m : Nat) (hc : c = .noticeClear m) : Changes c s (clearRequest m s).1 := by
  unfold clearRequest
  split
  · exact .refl
  · exact .single (.clearFlags m _ hc)

/-! ### The profile -/

theorem changes_roleChanged (old new : Profile) (l : Line) : Changes c s (State.roleChanged old new s l) := by
  unfold State.roleChanged
  split
  · split
    · exact changes_answerSlot _ _
    · exact changes_answerSlot _ _
    · exact .refl
  · exact .refl

theorem changes_foldl_roleChanged (old new : Profile) (ls : List Line) :
    Changes c s (ls.foldl (State.roleChanged old new) s) := by
  induction ls generalizing s with
  | nil => exact .refl
  | cons l ls ih => exact (changes_roleChanged old new l).trans ih

/-- R154, R159: what the pace fields do to the governor before the pace is computed anew. -/
theorem State.takePaceFields_eq (old : Profile) : ∃ (g : Governor) (was : Bool),
    g.requested = s.governor.requested ∧ (s.governor.guardLatch = true → g.guardLatch = true)
      ∧ (s.governor.glueLatch = true → g.glueLatch = true)
      ∧ (s.optionOn old).cyclingChanged old = State.levelRises .latched was { s with governor := g } := by
  have hoption : ∃ (g : Governor) (was : Bool), g.requested = s.governor.requested
      ∧ (s.governor.guardLatch = true → g.guardLatch = true)
      ∧ (s.governor.glueLatch = true → g.glueLatch = true)
      ∧ s.optionOn old = State.levelRises .latched was { s with governor := g } := by
    unfold State.optionOn
    split
    · exact ⟨{ s.governor with glueLatch := true }, s.anyLatch, rfl, id, fun _ => rfl, rfl⟩
    · exact ⟨s.governor, true, rfl, id, id, rfl⟩
  obtain ⟨g, was, hreq, hguard, hglue, e⟩ := hoption
  rw [e]
  unfold State.cyclingChanged
  split
  · refine ⟨{ g with recovery := .slow (s.clock + s.profile.slowPeriod * 1000) }, was, hreq, hguard, hglue, ?_⟩
    cases was <;> rfl
  · split
    · refine ⟨{ g with recovery := .idle }, was, hreq, hguard, hglue, ?_⟩
      cases was <;> rfl
    · exact ⟨g, was, hreq, hguard, hglue, rfl⟩

theorem readFields_length (ws : List Nat) (bs : List Byte) : (readFields ws bs).length = ws.length := by
  induction ws generalizing bs with
  | nil => rfl
  | cons w ws ih => simp [readFields, ih]

/-- R187: the blocks take up a section that has been stored. -/
theorem changes_takeProfile {n : Nat} {fields : List Byte} {vals : List Nat} (hn : n ≤ 3)
    (hc : c = .profileSet n fields) (hlen : vals.length = (sectionWidths n).length)
    (hgood : sectionAcceptable n vals = true) :
    Changes c s (State.takeProfile n s.profile { s with profile := withSection s.profile n vals }) := by
  match n, hn with
  | 0, _ =>
    exact (Changes.of_change (.setSection 0 fields vals hc (.inl rfl) hlen hgood)).trans
      (changes_foldl_roleChanged _ _ _)
  | 1, _ =>
    have h := Change.setPacedSection (s := s) 1 fields vals s.governor true hc (.inl rfl) hlen hgood rfl id id
    exact (changes_repaceReleasing h).trans (changes_reevaluate _)
  | 2, _ =>
    exact (Changes.of_change (.setSection 2 fields vals hc (.inr rfl) hlen hgood)).then
      (.annotate _ fun v => { Volume.Annotated.refl v with })
  | 3, _ =>
    obtain ⟨g, was, hreq, hguard, hglue, e⟩ :=
      State.takePaceFields_eq (s := { s with profile := withSection s.profile 3 vals }) s.profile
    have h := Change.setPacedSection (s := s) 3 fields vals g was hc (.inr rfl) hlen hgood hreq hguard hglue
    unfold State.takeProfile
    rw [e]
    exact changes_repaceReleasing h

theorem changes_setProfileRequest (n : Nat) (fields : List Byte) (hc : c = .profileSet n fields) :
    Changes c s (setProfileRequest n fields s).1 := by
  unfold setProfileRequest
  split
  · exact .refl
  · next hform =>
    split
    · exact .refl
    · split
      · exact .refl
      · dsimp only
        split
        · exact .refl
        · next hgood =>
          exact changes_takeProfile (by omega) hc (readFields_length _ _) (by simpa using hgood)

theorem readProfileRequest_state (n : Nat) : (readProfileRequest n s).1 = s := by
  unfold readProfileRequest
  split <;> rfl

theorem changes_saveRequest (hc : c = .profileSave) : Changes c s (saveRequest s).1 := by
  unfold saveRequest
  split
  · exact .refl
  · next h => exact .single (.beginSave hc (by simpa using h))

theorem changes_lineClearRequest (hc : c = .lineClear) : Changes c s (lineClearRequest s).1 := by
  unfold lineClearRequest
  by_cases h : s.governor.effective = .stop
  · have hclear : Changes c s s.clearVolumes.clearLine.repace := .of_change (.clearLine hc)
    rw [if_pos h]
    dsimp only
    exact hclear
  · rw [if_neg h]

/-! ### ENTRY -/

theorem changes_afterAdmission (before : State) : Changes c s (s.afterAdmission before) := by
  obtain e | e := s.afterAdmission_cases before <;> rw [e]
  exact changes_reevaluate _

/-- R48: an ENTRY admits a block first, if it admits one. -/
theorem exists_admits_changes_takeEntry (l : Line) (serial raw : Nat) :
    ∃ u, (u = s ∨ s.Admits u) ∧ Changes c u (s.takeEntry l serial raw) := by
  unfold State.takeEntry
  split
  · obtain e | ⟨r, e⟩ | ⟨n, e, i, hroom, hn, hserial, hrange, htitle, he⟩ := evalEntry_cases s serial raw
    · rw [e]
      exact ⟨s, .inl rfl, (changes_answerSlot _ _).trans (changes_afterAdmission _)⟩
    · rw [e]
      exact ⟨s, .inl rfl, ((Changes.of_change (.raise .divert)).trans (changes_answerSlot _ _)).trans
        (changes_afterAdmission _)⟩
    · rw [he]
      refine ⟨_, .inr ⟨n, serial, raw, e, hroom, hn, fun v hv => ?_, htitle, rfl⟩,
        (changes_answerSlot _ _).trans (changes_afterAdmission _)⟩
      simpa using List.any_eq_false.1 hserial v hv
  · exact ⟨s, .inl rfl, changes_immediately _ _ .refl⟩

theorem exists_admits_changes_entry {l : Line} {serial raw : Nat} (h : execEntry l serial raw s = .next t) :
    ∃ u, (u = s ∨ s.Admits u) ∧ Changes c u t := by
  cases h
  obtain ⟨-, e⟩ | ⟨-, -, e⟩ | ⟨-, -, e⟩ :=
    s.receive_cases l .entry (State.checked l .entry (goodRaw raw) (State.takeEntry l serial raw)) <;> rw [e]
  · exact ⟨s, .inl rfl, .refl⟩
  · unfold State.checked
    split
    · exact exists_admits_changes_takeEntry l serial raw
    · exact ⟨s, .inl rfl, changes_immediately _ _ .refl⟩
  · exact ⟨s, .inl rfl, changes_immediately _ _ .refl⟩

/-! ### Every command -/

/-- A request that answers and changes nothing else. -/
theorem changes_request_read (k : State → State × Answer) (h : ∀ u : State, (k u).1 = u) :
    Changes c s (s.request k) :=
  changes_request k fun u _ => by rw [h u]

/-- The commands that are applications of a report. -/
theorem changes_reportCommand (h : exec c s = .next t)
    (hc : c ∈ [.caseSeenApplied, .casedApplied, .caseSpoiledApplied, .bayClosedApplied, .bayClearedApplied,
      .bayFaultApplied, .jacketSeenApplied, .deliveredApplied]) : Changes c s t := by
  simp only [List.mem_cons, List.not_mem_nil, or_false] at hc
  obtain rfl | rfl | rfl | rfl | rfl | rfl | rfl | rfl := hc <;> cases h <;>
    refine changes_applyHead _ fun r f hf u => ?_ <;> cases r <;> cases hf
  · exact changes_applyCaseSeen _
  · exact changes_applyCased _
  · exact changes_applyCaseSpoiled _
  · exact changes_applyBayClosed _
  · exact changes_applyBayCleared _
  · exact changes_applyBayFault _
  · exact changes_applyJacketSeen _
  · exact changes_applyDelivered _

/-- Every command but an ENTRY is a chain of changes. -/
theorem changes_exec (h : exec c s = .next t) (hc : ∀ l serial raw, c ≠ .entry l serial raw) : Changes c s t := by
  cases c with
  | deviceReset => exact .single (.reset t rfl h)
  | profileLoad a => exact .single (.loadProfile a t rfl h)
  | badFrame p cause => exact changes_badFrame (cause := cause) h
  | frameRefused p kind tag body => exact changes_frameRefused h
  | answerSend l => exact changes_answerSend h
  | answerCollision l n => exact changes_answerCollision h
  | answerRead n => exact changes_answerRead h
  | caseSeen | cased | caseSpoiled | bayClosed | bayCleared | bayFault | jacketSeen | delivered =>
    cases h
    exact changes_receive _ _ _ (changes_postReport _ _ _ _)
  | caseSeenApplied | casedApplied | caseSpoiledApplied | bayClosedApplied | bayClearedApplied | bayFaultApplied
  | jacketSeenApplied | deliveredApplied => exact changes_reportCommand h (by simp)
  | entry l serial raw => exact absurd rfl (hc l serial raw)
  | caseCall | nextMove | foldCall =>
    cases h
    exact changes_receive _ _ _ (changes_takeQuery _ _ _ _)
  | gauge =>
    cases h
    exact changes_receive _ _ _ (changes_checked _ _ _ _ (changes_takeQuery _ _ _ _))
  | holdLimitExpiry l => exact changes_holdLimitExpiry h
  | dwellExpiry b => exact changes_dwellExpiry h
  | overdwellExpiry b => exact changes_overdwellExpiry h
  | idleTimerExpiry => exact changes_idleTimerExpiry h
  | recoveryPeriodEnd => exact changes_recoveryPeriodEnd h
  | glueReadyChange x => exact changes_glueReadyChange x h
  | platenLowChange x => exact changes_platenLowChange x h
  | platenColdChange x => exact changes_platenColdChange x h
  | guardOpenChange x => exact changes_guardOpenChange x h
  | titleLoad code g p => cases h; exact changes_request _ fun _ _ => changes_loadTitle _ _ _
  | titleAmend code p g => cases h; exact changes_request _ fun _ _ => changes_amendRequest _ _ _
  | titleHold code => cases h; exact changes_request _ fun _ _ => changes_holdRequest _
  | titleFree code => cases h; exact changes_request _ fun _ _ => changes_freeRequest _
  | titleRetire code => cases h; exact changes_request _ fun _ _ => changes_retireRequest _
  | titlePurge => cases h; exact changes_request _ fun _ _ => changes_purgeRequest
  | titleRead code => cases h; exact changes_request _ fun _ _ => changes_onTitle _ _ _ fun _ _ => .refl
  | missRead | statusRead | noticeRead => cases h; exact changes_request_read _ fun _ => rfl
  | rangeSet i b k code u => cases h; exact changes_request _ fun _ _ => changes_setRangeRequest _ _ _ _ _ rfl
  | rangeClear i => cases h; exact changes_request _ fun _ _ => changes_clearRangeRequest _ rfl
  | rangeRead q => cases h; exact changes_request_read _ fun _ => readRangeRequest_state q
  | volumeRead n => cases h; exact changes_request_read _ fun _ => readVolumeRequest_state n
  | volumeFind n => cases h; exact changes_request_read _ fun _ => findVolumeRequest_state n
  | volumeWriteoff n => cases h; exact changes_request _ fun _ _ => changes_writeoffRequest _
  | bayService b d => cases h; exact changes_request _ fun _ _ => changes_serviceRequest _ _
  | bayRead q => cases h; exact changes_request_read _ fun _ => bayReadRequest_state q
  | paceSet n => cases h; exact changes_request _ fun _ hphase => changes_setPaceRequest _ rfl hphase
  | paceRelease => cases h; exact changes_request _ fun _ _ => changes_releaseRequest rfl
  | noticeEnable m => cases h; exact changes_request _ fun _ _ => changes_enableRequest _ rfl
  | noticeClear m => cases h; exact changes_request _ fun _ _ => changes_clearRequest _ rfl
  | profileSet n fields => cases h; exact changes_request _ fun _ _ => changes_setProfileRequest _ _ rfl
  | profileRead n => cases h; exact changes_request_read _ fun _ => readProfileRequest_state n
  | profileSave => cases h; exact changes_request _ fun _ _ => changes_saveRequest rfl
  | profileSaveDone => exact .single (.endSave t rfl h)
  | profileSaveFailed n => exact .single (.failSave n t rfl h)
  | lineClear => cases h; exact changes_request _ fun _ _ => changes_lineClearRequest rfl

/-- Every command is at most one admission, and then a chain of changes. -/
theorem exists_admits_changes_exec (h : exec c s = .next t) : ∃ u, (u = s ∨ s.Admits u) ∧ Changes c u t := by
  by_cases hc : ∃ l serial raw, c = .entry l serial raw
  · obtain ⟨l, serial, raw, rfl⟩ := hc
    exact exists_admits_changes_entry h
  · exact ⟨s, .inl rfl, changes_exec h fun l serial raw e => hc ⟨l, serial, raw, e⟩⟩

/-- A promise that admissions and changes keep is kept by every command. -/
theorem exec_keeps {P : State → Prop} (hadmit : ∀ s u : State, P s → s.Admits u → P u)
    (hchange : ∀ s u : State, P s → Change c s u → P u) (h : exec c s = .next t) (hs : P s) : P t := by
  obtain ⟨u, hu, hchain⟩ := exists_admits_changes_exec h
  have hstart : P u := by
    obtain rfl | hu := hu
    · exact hs
    · exact hadmit s u hs hu
  clear h
  induction hchain with
  | refl => exact hstart
  | tail _ hstep ih => exact hchange _ _ ih hstep

/-- A promise that the queue of waiting commands and the tick of an idle step do not touch is kept by every step. -/
theorem step_keeps {P : State → Prop} (hadmit : ∀ s u : State, P s → s.Admits u → P u)
    (hchange : ∀ (c : Instr) (s u : State), P s → Change c s u → P u) (htick : ∀ s : State, P s → P s.tick)
    (hpending : ∀ (s : State) (rest : List Instr), P s → P { s with pending := rest }) (h : step s = .next t)
    (hs : P s) : P t := by
  unfold step at h
  split at h
  · cases h; exact htick s hs
  · next i rest _ => exact exec_keeps hadmit (hchange i) h (hpending s rest hs)

end Sys2Proof.Machine

/-! SUPPORT. What the whole-part commands leave, and the promises of single fields: the queue, the profile, the store,
the notices and the owners of the records. -/

namespace Sys2Proof.Machine

variable {c : Instr} {s t : State}

/-! ### Notices raised -/

/-- R180: only flags of enabled kinds have been set. -/
def NoticeUnit.Raised (m n : NoticeUnit) : Prop := n.enables = m.enables ∧ ∃ x, n.flags = m.flags ||| (m.enables &&& x)

theorem NoticeUnit.Raised.refl (m : NoticeUnit) : m.Raised m := ⟨rfl, 0, by simp⟩

theorem NoticeUnit.Raised.trans {l m n : NoticeUnit} (h : l.Raised m) (g : m.Raised n) : l.Raised n := by
  obtain ⟨henables, x, hx⟩ := h
  obtain ⟨genables, y, hy⟩ := g
  refine ⟨genables.trans henables, x ||| y, ?_⟩
  rw [hy, hx, henables]
  ext i hi
  simp only [BitVec.getElem_or, BitVec.getElem_and]
  cases l.enables[i] <;> simp [Bool.or_assoc]

theorem State.raised_raise (k : Notice) : s.notices.Raised (s.raise k).notices := ⟨rfl, _, rfl⟩

theorem State.raised_levelRises (k : Notice) (was : Bool) : s.notices.Raised (s.levelRises k was).notices := by
  obtain ⟨-, e⟩ | ⟨-, e⟩ := s.levelRises_cases k was <;> rw [e]
  · exact .refl _
  · exact State.raised_raise k

theorem State.raised_repace : s.notices.Raised s.repace.notices := by
  obtain ⟨-, e⟩ | ⟨-, e⟩ := s.repace_cases <;> rw [e]
  · exact .refl _
  · exact State.raised_raise (s := { s with governor := _ }) .pace

theorem State.raised_counted (k : Removal) (u : Title) (code : Nat) :
    s.notices.Raised (s.counted k u code).notices := by
  unfold State.counted
  split
  · exact State.raised_raise (s := s.updTitle code _) .quota
  · exact .refl _

theorem State.raised_countRemoval (k : Removal) (code : Nat) :
    s.notices.Raised (s.countRemoval k code).notices := by
  obtain ⟨-, e⟩ | ⟨u, -, ⟨-, e⟩ | ⟨-, e⟩⟩ := s.countRemoval_cases k code <;> rw [e]
  · exact .refl _
  · exact State.raised_counted k u code
  · exact (State.raised_counted k u code).trans (State.raised_raise (s := (s.counted k u code).removeTitle code) _)

theorem State.raised_removeVolume (k : Removal) (v : Volume) : s.notices.Raised (s.removeVolume k v).notices := by
  obtain ⟨-, e⟩ | ⟨-, e⟩ := s.removeVolume_cases k v <;> rw [e]
  · exact (State.raised_countRemoval (s := s.dropVolume v.number) k v.title).trans State.raised_repace
  · have h : s.notices.Raised ((s.dropVolume v.number).settleMiss v.title).notices := by simpa using .refl s.notices
    exact h.trans State.raised_repace

/-! ### LINE_CLEAR and TITLE_LOAD, one record after another -/

/-- What holds of a state, and is kept by each removal of a record of the table, holds after the clear. -/
theorem State.clearVolumes_induction {P : State → Prop}
    (h : ∀ (u : State) (v : Volume), v ∈ u.volumes → P u → P (u.removeVolume .cleared v)) (hs : P s) :
    P s.clearVolumes := by
  unfold State.clearVolumes
  generalize List.range Config.volumeSlots = ns
  induction ns generalizing s with
  | nil => exact hs
  | cons n ns ih =>
    refine ih ?_
    unfold State.clearVolume
    split
    · exact hs
    · next v hv => exact h s v (State.mem_of_volume? hv).1 hs

/-- R11: the state a load binds its volumes in. -/
def State.stored (u : Title) (victim : Option Nat) (s : State) : State :=
  State.dropMiss u.code { s.evict victim with titles := u :: (s.evict victim).titles }

theorem State.storeTitle_eq (u : Title) (victim : Option Nat) : s.storeTitle u victim =
    ((s.stored u victim).waitingFor u.code).foldl (fun s v => s.bind v.number) (s.stored u victim) := rfl

/-- R18, R55: a fold of binds leaves everything a bind leaves. -/
theorem State.foldl_bind_induction {P : State → Prop} (h : ∀ (u : State) (n : Nat), P u → P (u.bind n))
    (vs : List Volume) (hs : P s) : P (vs.foldl (fun s v => s.bind v.number) s) := by
  induction vs generalizing s with
  | nil => exact hs
  | cons v vs ih => exact ih (h s v.number hs)

theorem State.raised_evict (victim : Option Nat) : s.notices.Raised (s.evict victim).notices := by
  unfold State.evict
  split
  · exact .refl _
  · exact State.raised_raise (s := s.removeTitle _) .evicted

/-! ### PROFILE_LOAD and DEVICE_RESET -/

/-- R160: the first reading sets latches and the recovery cycle, and may raise LATCHED. -/
theorem State.firstReading_eq : ∃ (g : Governor) (n : NoticeUnit),
    s.firstReading = { s with governor := g, notices := n } ∧ g.requested = s.governor.requested
      ∧ (s.governor.guardLatch = true → g.guardLatch = true)
      ∧ (s.governor.glueLatch = true → g.glueLatch = true) ∧ s.notices.Raised n := by
  have hguard : ∃ (g : Governor) (n : NoticeUnit),
      (if s.governor.lines.guardOpen then s.guardOnset else s) = { s with governor := g, notices := n }
      ∧ g.requested = s.governor.requested ∧ (s.governor.guardLatch = true → g.guardLatch = true)
      ∧ (s.governor.glueLatch = true → g.glueLatch = true) ∧ s.notices.Raised n := by
    split
    · refine ⟨{ s.governor with guardLatch := true }, s.guardOnset.notices, ?_, rfl, fun _ => rfl, id, ?_⟩
      · unfold State.guardOnset State.setGuardLatch
        cases s.anyLatch <;> rfl
      · exact State.raised_levelRises (s := { s with governor := { s.governor with guardLatch := true } }) _ _
    · exact ⟨s.governor, s.notices, rfl, rfl, id, id, .refl _⟩
  have hglue (u : State) : ∃ (g : Governor) (n : NoticeUnit),
      (if u.governor.lines.glueReady then u else u.glueOnset) = { u with governor := g, notices := n }
      ∧ g.requested = u.governor.requested ∧ (u.governor.guardLatch = true → g.guardLatch = true)
      ∧ (u.governor.glueLatch = true → g.glueLatch = true) ∧ u.notices.Raised n := by
    split
    · exact ⟨u.governor, u.notices, rfl, rfl, id, id, .refl _⟩
    · unfold State.glueOnset
      split
      · refine ⟨{ u.governor with glueLatch := true }, u.setGlueLatch.notices, ?_, rfl, id, fun _ => rfl, ?_⟩
        · unfold State.setGlueLatch
          cases u.anyLatch <;> rfl
        · exact State.raised_levelRises (s := { u with governor := { u.governor with glueLatch := true } }) _ _
      · exact ⟨u.governor, u.notices, rfl, rfl, id, id, .refl _⟩
  have hplaten (u : State) : ∃ (g : Governor),
      (if u.governor.lines.platenLow then u.platenLowOnset else u) = { u with governor := g }
      ∧ g.requested = u.governor.requested ∧ (u.governor.guardLatch = true → g.guardLatch = true)
      ∧ (u.governor.glueLatch = true → g.glueLatch = true) := by
    split
    · unfold State.platenLowOnset
      split
      · exact ⟨{ u.governor with recovery := _ }, rfl, rfl, id, id⟩
      · exact ⟨u.governor, rfl, rfl, id, id⟩
    · exact ⟨u.governor, rfl, rfl, id, id⟩
  obtain ⟨g1, n1, e1, r1, a1, b1, m1⟩ := hguard
  obtain ⟨g2, n2, e2, r2, a2, b2, m2⟩ := hglue { s with governor := g1, notices := n1 }
  obtain ⟨g3, e3, r3, a3, b3⟩ := hplaten { s with governor := g2, notices := n2 }
  refine ⟨g3, n2, ?_, r3.trans (r2.trans r1), a3 ∘ a2 ∘ a1, b3 ∘ b2 ∘ b1, m1.trans m2⟩
  unfold State.firstReading
  dsimp only
  rw [e1, e2]
  exact e3

/-- R186, R160: a load takes the profile of the store, reads the lines for the first time and has the pace computed
anew; with the profile loaded it does not occur. -/
theorem execProfileLoad_cases {a : Bool} (h : execProfileLoad a s = .next t) :
    t = s ∨ s.phase = .loading ∧ ∃ (g : Governor) (n : NoticeUnit) (o : LoadOutcome) (k : Nat),
      g.requested = s.governor.requested ∧ (s.governor.guardLatch = true → g.guardLatch = true)
      ∧ (s.governor.glueLatch = true → g.glueLatch = true) ∧ s.notices.Raised n
      ∧ t = State.repace { s with
        phase := .running, profile := (loadProfile s.store a).1, profileStatus := ⟨o, k, .idle, .none⟩
        governor := g, notices := n } := by
  unfold execProfileLoad at h
  split at h
  · cases h; exact .inl rfl
  · next hphase =>
    refine .inr ⟨by cases hp : s.phase <;> simp_all, ?_⟩
    cases h
    have hraise : ∃ n : NoticeUnit, s.notices.Raised n ∧
        (if 0 < (loadProfile s.store a).2.2 then State.raise .profile { s with
            phase := .running, profile := (loadProfile s.store a).1
            profileStatus := ⟨(loadProfile s.store a).2.1, (loadProfile s.store a).2.2, .idle, .none⟩ }
          else { s with
            phase := .running, profile := (loadProfile s.store a).1
            profileStatus := ⟨(loadProfile s.store a).2.1, (loadProfile s.store a).2.2, .idle, .none⟩ })
        = { s with
            phase := .running, profile := (loadProfile s.store a).1
            profileStatus := ⟨(loadProfile s.store a).2.1, (loadProfile s.store a).2.2, .idle, .none⟩
            notices := n } := by
      split
      · exact ⟨_, State.raised_raise .profile, rfl⟩
      · exact ⟨_, .refl _, rfl⟩
    obtain ⟨n, hn, e⟩ := hraise
    rw [e]
    obtain ⟨g, n', e', hreq, hguard, hglue, hn'⟩ := State.firstReading_eq (s := { s with
      phase := .running, profile := (loadProfile s.store a).1
      profileStatus := ⟨(loadProfile s.store a).2.1, (loadProfile s.store a).2.2, .idle, .none⟩
      notices := n })
    exact ⟨g, n', _, _, hreq, hguard, hglue, hn.trans hn', by rw [e']⟩

/-! ### The waiting queue -/

theorem State.Admits.pending {u : State} (h : s.Admits u) : u.pending = s.pending := by
  obtain ⟨n, serial, raw, e, -, -, -, -, rfl⟩ := h
  unfold admitBlock
  dsimp only
  split <;> simp

theorem Change.pending (h : Change c s t) : t.pending = s.pending := by
  cases h with
  | ports | raise | clock | post | unpost | seeCase | jackets | annotate | marry | cased | finish | miss | pass | remove
  | load | stage | empty | reject | idleBay | repace | govern | levels | releaseLatches | dropTitles | retitle
  | touch | setRange | clearRange | writeEnables | clearFlags | setSection | setPacedSection | beginSave =>
    simp [takeCase, loadVolume]
  | unload b => unfold unloadBay; split <;> simp
  | setPace n p => unfold State.requestPace; dsimp only; split <;> simp
  | storeTitle slot code g p victim =>
    rw [State.storeTitle_eq]
    exact State.foldl_bind_induction (P := fun u => u.pending = s.pending) (fun u n hu => by simpa using hu) _
      (by simp [State.stored])
  | endSave t _ h => obtain ⟨-, e⟩ | ⟨m, -, e⟩ := execProfileSaveDone_cases s <;> rw [e] at h <;> cases h <;> rfl
  | failSave n t _ h => obtain ⟨-, e⟩ | ⟨m, -, e⟩ := execProfileSaveFailed_cases s n <;> rw [e] at h <;> cases h <;> rfl
  | loadProfile a t _ h =>
    obtain rfl | ⟨-, g, n, o, k, -, -, -, -, rfl⟩ := execProfileLoad_cases h
    · rfl
    · simp
  | reset t _ h => cases h; rfl
  | clearLine =>
    simpa using State.clearVolumes_induction (P := fun u => u.pending = s.pending) (fun u v _ hu => by simpa using hu) rfl

/-- Every arm of `exec` answers a next state. -/
theorem exists_exec_eq_next (c : Instr) (s : State) : ∃ t, exec c s = .next t := by
  cases c with
  | profileLoad a => change ∃ t, execProfileLoad a s = _; unfold execProfileLoad; split <;> exact ⟨_, rfl⟩
  | badFrame p _ => cases p <;> exact ⟨_, rfl⟩
  | frameRefused p k g b =>
    change ∃ t, execFrameRefused p k g b s = _
    unfold execFrameRefused
    split
    · exact ⟨_, rfl⟩
    · split
      · split <;> exact ⟨_, rfl⟩
      · exact ⟨_, rfl⟩
  | answerSend l => change ∃ t, execAnswerSend l s = _; unfold execAnswerSend; split <;> exact ⟨_, rfl⟩
  | answerCollision l n =>
    change ∃ t, execAnswerCollision l n s = _; unfold execAnswerCollision; split <;> exact ⟨_, rfl⟩
  | answerRead n =>
    change ∃ t, execAnswerRead n s = _
    unfold execAnswerRead
    split
    · exact ⟨_, rfl⟩
    · split <;> exact ⟨_, rfl⟩
  | holdLimitExpiry l =>
    change ∃ t, execHoldLimitExpiry l s = _; unfold execHoldLimitExpiry; split <;> exact ⟨_, rfl⟩
  | dwellExpiry b =>
    change ∃ t, execDwellExpiry b s = _
    unfold execDwellExpiry
    split
    · exact ⟨_, rfl⟩
    · split <;> exact ⟨_, rfl⟩
  | overdwellExpiry b =>
    change ∃ t, execOverdwellExpiry b s = _
    unfold execOverdwellExpiry
    split
    · exact ⟨_, rfl⟩
    · split
      · exact ⟨_, rfl⟩
      · split <;> exact ⟨_, rfl⟩
  | idleTimerExpiry =>
    change ∃ t, execIdleTimerExpiry s = _; unfold execIdleTimerExpiry; split <;> exact ⟨_, rfl⟩
  | recoveryPeriodEnd =>
    change ∃ t, execRecoveryPeriodEnd s = _; unfold execRecoveryPeriodEnd; split <;> exact ⟨_, rfl⟩
  | profileSaveDone => obtain ⟨-, e⟩ | ⟨m, -, e⟩ := execProfileSaveDone_cases s <;> exact ⟨_, e⟩
  | profileSaveFailed n => obtain ⟨-, e⟩ | ⟨m, -, e⟩ := execProfileSaveFailed_cases s n <;> exact ⟨_, e⟩
  | _ => exact ⟨_, rfl⟩

/-- Settles O3: every arm answers a next state, and no admission or change reaches the queue. -/
theorem everyCommandCompletes : Obligations.EveryCommandCompletes := by
  unfold Obligations.EveryCommandCompletes
  intro c s
  obtain ⟨t, ht⟩ := exists_exec_eq_next c s
  exact ⟨t, ht, exec_keeps (P := fun u => u.pending = s.pending) (fun _ _ hs hu => hu.pending.trans hs)
    (fun _ _ hs hu => hu.pending.trans hs) ht rfl⟩

end Sys2Proof.Machine

/-! SUPPORT. Binding volumes: the state after an admission and after an accepted TITLE_LOAD, written out. -/

namespace Sys2Proof.Machine

variable {s : State}

/-! ### Records by their number -/

/-- R37: the record of a number no two records share. -/
theorem State.volume?_of_mem (hnodup : (s.volumes.map Volume.number).Nodup) {v : Volume} (hv : v ∈ s.volumes) :
    s.volume? v.number = some v := by
  obtain ⟨w, hw⟩ : ∃ w, s.volume? v.number = some w := by
    refine Option.isSome_iff_exists.1 (List.find?_isSome.2 ⟨v, hv, by simp⟩)
  obtain ⟨hmem, hn⟩ := State.mem_of_volume? hw
  rw [hw, List.inj_on_of_nodup_map hnodup hmem hv hn]

theorem State.eq_of_number_eq (hnodup : (s.volumes.map Volume.number).Nodup) {v w : Volume} (hv : v ∈ s.volumes)
    (hw : w ∈ s.volumes) (h : v.number = w.number) : v = w := List.inj_on_of_nodup_map hnodup hv hw h

/-- R37: the record of a number that no earlier record carries. -/
theorem find?_number_append {vs : List Volume} {w : Volume} (h : ∀ v ∈ vs, v.number ≠ w.number) :
    (vs ++ [w]).find? (fun v => v.number == w.number) = some w := by
  rw [List.find?_append, List.find?_eq_none.2 fun v hv => by simpa using h v hv]
  simp

theorem map_number_ite_of_ne {vs : List Volume} {n : Nat} (f : Volume → Volume) (h : ∀ v ∈ vs, v.number ≠ n) :
    (vs.map fun v => if v.number = n then f v else v) = vs := by
  conv_rhs => rw [← List.map_id vs]
  exact List.map_congr_left fun v hv => by simp [h v hv]

/-- R6: a title that is changed and touched goes to the head as changed. -/
theorem State.touchTitle_updTitle (code : Nat) (f : Title → Title) (hf : ∀ u, (f u).code = u.code) :
    (s.updTitle code f).touchTitle code = { s with
      titles := (s.titles.filter fun u => u.code == code).map f ++ s.titles.filter fun u => u.code != code } := by
  have hcode (u : Title) : (if u.code = code then f u else u).code = u.code := by split <;> simp [hf]
  have hhead : (s.titles.map fun u => if u.code = code then f u else u).filter (fun u => u.code == code)
      = (s.titles.filter fun u => u.code == code).map f := by
    rw [List.filter_map]
    simp only [Function.comp_def, hcode]
    exact List.map_congr_left fun u hu => if_pos (by simpa using (List.mem_filter.1 hu).2)
  have hrest : (s.titles.map fun u => if u.code = code then f u else u).filter (fun u => u.code != code)
      = s.titles.filter fun u => u.code != code := by
    rw [List.filter_map]
    simp only [Function.comp_def, hcode]
    conv_rhs => rw [← List.map_id (s.titles.filter fun u => u.code != code)]
    exact List.map_congr_left fun u hu => if_neg (by simpa using (List.mem_filter.1 hu).2)
  simp only [State.updTitle, State.touchTitle, hhead, hrest]

/-! ### Admission -/

/-- R52: a block of a resident title is bound at once. -/
theorem admitBlock_of_resident {n code : Nat} (serial raw unit : Nat) {u : Title}
    (hfree : ∀ v ∈ s.volumes, v.number ≠ n) (hu : s.title? code = some u) :
    admitBlock n serial raw code unit s = (State.handAdmit { s with
      volumes := s.volumes ++ [bindVolume s.profile u (newVolume n serial code unit raw)]
      titles := (s.titles.filter fun u => u.code == code).map countIn
        ++ s.titles.filter fun u => u.code != code }).repace := by
  let w := newVolume n serial code unit raw
  let grown : State := { s with volumes := s.volumes ++ [w] }
  have hw : grown.volume? n = some w := find?_number_append (w := w) hfree
  have hbind : grown.bind n = { s with
      volumes := s.volumes ++ [bindVolume s.profile u w]
      titles := (s.titles.filter fun u => u.code == code).map countIn
        ++ s.titles.filter fun u => u.code != code } := by
    have htitle : grown.title? w.title = some u := hu
    simp only [State.bind, hw, htitle]
    rw [State.touchTitle_updTitle _ countIn fun _ => rfl]
    have hmap := map_number_ite_of_ne (bindVolume s.profile u) hfree
    simp only [State.updVolume, grown, List.map_append, hmap, List.map_cons, List.map_nil]
    rw [show (if w.number = n then bindVolume s.profile u w else w) = bindVolume s.profile u w from if_pos rfl]
    rfl
  have hsome : (grown.title? code).isSome = true := by simp [show grown.title? code = some u from hu]
  unfold admitBlock
  dsimp only
  rw [if_pos hsome]
  exact congrArg (fun z : State => z.handAdmit.repace) hbind

/-- R53: a block of an absent title waits for it, and its code joins the miss list. -/
theorem admitBlock_of_absent {n code : Nat} (serial raw unit : Nat) (hu : s.title? code = none) :
    admitBlock n serial raw code unit s = (State.handAdmit (State.appendMiss code { s with
      volumes := s.volumes ++ [newVolume n serial code unit raw] })).repace := by
  have hgrown : State.title? { s with volumes := s.volumes ++ [newVolume n serial code unit raw] } code = none := hu
  have hnone : (State.title? { s with volumes := s.volumes ++ [newVolume n serial code unit raw] } code).isSome
      = false := by rw [hgrown]; rfl
  unfold admitBlock
  dsimp only
  rw [hnone]
  rfl

/-! ### Loading a title -/

/-- R18: a title that `k` volumes are bound to, one after another. -/
def countedIn (k : Nat) (u : Title) : Title :=
  { u with admitted := min (u.admitted + k) Config.counterMax, volumeCount := u.volumeCount + k }

theorem countedIn_zero {u : Title} (h : u.admitted ≤ Config.counterMax) : countedIn 0 u = u := by
  simp [countedIn, h]

theorem countedIn_countIn (k : Nat) (u : Title) : countedIn k (countIn u) = countedIn (k + 1) u := by
  simp only [countedIn, countIn, countUp, Title.mk.injEq, true_and, and_true]
  exact ⟨by omega, by omega⟩

/-- R55: a bind reads the geometry and the band of a title, and nothing counted of it. -/
theorem bindVolume_countIn (p : Profile) (u : Title) : bindVolume p (countIn u) = bindVolume p u := rfl

/-- R18, R55: a bind of a waiting volume to the title at the head of the recency list. -/
theorem State.bind_head {u : Title} {rest : List Title} {v : Volume} (htitles : s.titles = u :: rest)
    (hrest : ∀ w ∈ rest, w.code ≠ u.code) (hv : s.volume? v.number = some v) (hcode : v.title = u.code) :
    s.bind v.number = { s with
      titles := countIn u :: rest
      volumes := s.volumes.map fun w => if w.number = v.number then bindVolume s.profile u w else w } := by
  have htitle : s.title? v.title = some u := by simp [State.title?, htitles, hcode]
  have hkeep : rest.filter (fun w => w.code != u.code) = rest := List.filter_eq_self.2 fun w hw => by
    simpa using hrest w hw
  have hgone : rest.filter (fun w => w.code == u.code) = [] := List.filter_eq_nil_iff.2 fun w hw => by
    simpa using hrest w hw
  simp only [State.bind, hv, htitle]
  rw [State.touchTitle_updTitle _ countIn fun _ => rfl]
  simp [State.updVolume, htitles, hcode, hkeep, hgone]

/-- R11, R18, R55: volumes of distinct numbers bound one after another to the title at the head. -/
theorem State.foldl_bind {u : Title} {rest : List Title} (vs : List Volume) (htitles : s.titles = u :: rest)
    (hadmitted : u.admitted ≤ Config.counterMax) (hrest : ∀ w ∈ rest, w.code ≠ u.code)
    (hvs : ∀ v ∈ vs, s.volume? v.number = some v ∧ v.title = u.code) (hnodup : (vs.map Volume.number).Nodup) :
    vs.foldl (fun s v => s.bind v.number) s = { s with
      titles := countedIn vs.length u :: rest
      volumes := s.volumes.map fun w =>
        if w.number ∈ vs.map Volume.number then bindVolume s.profile u w else w } := by
  induction vs generalizing s u with
  | nil =>
    simp only [List.foldl_nil, List.length_nil, countedIn_zero hadmitted, List.map_nil, List.not_mem_nil, if_false,
      List.map_id', ← htitles]
  | cons v vs ih =>
    obtain ⟨hv, hcode⟩ := hvs v (by simp)
    rw [List.map_cons, List.nodup_cons] at hnodup
    obtain ⟨hfresh, hrestNodup⟩ := hnodup
    rw [List.foldl_cons, State.bind_head htitles hrest hv hcode]
    refine (ih (u := countIn u) rfl (by simp [countIn, countUp]) hrest (fun w hw => ⟨?_, (hvs w (by simp [hw])).2⟩)
      hrestNodup).trans ?_
    · have hne : w.number ≠ v.number := fun e => hfresh (by rw [← e]; exact List.mem_map_of_mem hw)
      have hfound := (hvs w (by simp [hw])).1
      unfold State.volume? at hfound ⊢
      have hnumber (x : Volume) : (if x.number = v.number then bindVolume s.profile u x else x).number = x.number := by
        split <;> rfl
      rw [List.find?_map]
      simp only [Function.comp_def, hnumber, hfound, Option.map_some, if_neg hne]
    · rw [countedIn_countIn, bindVolume_countIn, List.map_map]
      congr 1
      refine List.map_congr_left fun w _ => ?_
      by_cases e : w.number = v.number
      · have hother : v.number ∉ vs.map Volume.number := hfresh
        simp [e, bindVolume, hother]
      · simp [e]

/-- R54: the volume waits for the title of this code. -/
def waitsFor (code : Nat) (v : Volume) : Bool := v.state == .awaitTitle && v.title == code

theorem State.waitingFor_eq (code : Nat) : s.waitingFor code = s.volumes.filter (waitsFor code) := rfl

/-- R11: a title whose code is not resident, loaded: every volume that waits for it is bound and counted. -/
theorem State.storeTitle_of_nodup {u : Title} (victim : Option Nat)
    (hnodup : (s.volumes.map Volume.number).Nodup) (hadmitted : u.admitted ≤ Config.counterMax)
    (hcode : ∀ w ∈ s.titles, w.code ≠ u.code) :
    s.storeTitle u victim = { s.evict victim with
      titles := countedIn (s.waitingFor u.code).length u :: (s.evict victim).titles
      missList := s.missList.filter fun m => m != u.code
      volumes := s.volumes.map fun v => if waitsFor u.code v then bindVolume s.profile u v else v } := by
  have hsub : (s.evict victim).titles ⊆ s.titles := by
    unfold State.evict
    split
    · exact fun _ h => h
    · exact List.filter_subset_self _
  have hvolumes : (s.stored u victim).volumes = s.volumes := by simp [State.stored]
  have hwaiting : (s.stored u victim).waitingFor u.code = s.waitingFor u.code := by simp [State.waitingFor, hvolumes]
  have hfound {v : Volume} (hv : v ∈ s.volumes) : (s.stored u victim).volume? v.number = some v := by
    unfold State.volume?
    rw [hvolumes]
    exact State.volume?_of_mem hnodup hv
  have hfold := State.foldl_bind (s := s.stored u victim) (u := u) (rest := (s.evict victim).titles)
    (s.waitingFor u.code) rfl hadmitted (fun w hw => hcode w (hsub hw))
    (fun v hv => by
      obtain ⟨hmem, hwait⟩ := List.mem_filter.1 hv
      exact ⟨hfound hmem, by simpa using (Bool.and_eq_true_iff.1 hwait).2⟩)
    (hnodup.sublist (List.filter_sublist.map _))
  rw [State.storeTitle_eq, hwaiting, hfold]
  have hmap : (s.stored u victim).volumes.map (fun w =>
      if w.number ∈ (s.waitingFor u.code).map Volume.number then bindVolume (s.stored u victim).profile u w else w)
      = s.volumes.map fun v => if waitsFor u.code v then bindVolume s.profile u v else v := by
    rw [hvolumes]
    refine List.map_congr_left fun v hv => ?_
    have hiff : v.number ∈ (s.waitingFor u.code).map Volume.number ↔ waitsFor u.code v = true := by
      refine ⟨fun h => ?_, fun h => List.mem_map_of_mem (List.mem_filter.2 ⟨hv, h⟩)⟩
      obtain ⟨w, hw, hn⟩ := List.mem_map.1 h
      obtain ⟨hmem, hwait⟩ := List.mem_filter.1 hw
      exact State.eq_of_number_eq hnodup hmem hv hn ▸ hwait
    simp only [hiff]
    simp [State.stored]
  rw [hmap]
  simp [State.stored, State.dropMiss]

end Sys2Proof.Machine

/-! SUPPORT. The fields that the changes without a rule of their own leave, and what a change can do to the records of
the volumes and the titles. -/

namespace Sys2Proof.Machine

variable {c : Instr} {s t : State}

/-! ### Fields left -/

section

variable (s : State) (u : Title) (victim : Option Nat)

/-- R11: a load reaches the titles, the miss list, the volumes it binds and the notices. -/
theorem State.storeTitle_frame : s.storeTitle u victim = { s with
    titles := (s.storeTitle u victim).titles, missList := (s.storeTitle u victim).missList
    volumes := (s.storeTitle u victim).volumes, notices := (s.storeTitle u victim).notices } := by
  rw [State.storeTitle_eq]
  refine State.foldl_bind_induction (P := fun x => x = { s with
    titles := x.titles, missList := x.missList, volumes := x.volumes, notices := x.notices }) (fun x n hx => ?_) _ ?_
  · obtain e | ⟨v, w, -, -, e⟩ := x.bind_cases n <;> rw [e]
    · exact hx
    · rw [hx]; rfl
  · unfold State.stored State.evict
    split <;> rfl

@[simp] theorem State.storeTitle_phase : (s.storeTitle u victim).phase = s.phase := by rw [State.storeTitle_frame]
@[simp] theorem State.storeTitle_clock : (s.storeTitle u victim).clock = s.clock := by rw [State.storeTitle_frame]
@[simp] theorem State.storeTitle_ranges : (s.storeTitle u victim).ranges = s.ranges := by rw [State.storeTitle_frame]
@[simp] theorem State.storeTitle_postPress : (s.storeTitle u victim).postPress = s.postPress := by rw [State.storeTitle_frame]
@[simp] theorem State.storeTitle_caseWindow : (s.storeTitle u victim).caseWindow = s.caseWindow := by rw [State.storeTitle_frame]
@[simp] theorem State.storeTitle_jacketWindow : (s.storeTitle u victim).jacketWindow = s.jacketWindow := by rw [State.storeTitle_frame]
@[simp] theorem State.storeTitle_bays : (s.storeTitle u victim).bays = s.bays := by rw [State.storeTitle_frame]
@[simp] theorem State.storeTitle_governor : (s.storeTitle u victim).governor = s.governor := by rw [State.storeTitle_frame]
@[simp] theorem State.storeTitle_reports : (s.storeTitle u victim).reports = s.reports := by rw [State.storeTitle_frame]
@[simp] theorem State.storeTitle_stations : (s.storeTitle u victim).stations = s.stations := by rw [State.storeTitle_frame]
@[simp] theorem State.storeTitle_supervisor : (s.storeTitle u victim).supervisor = s.supervisor := by rw [State.storeTitle_frame]
@[simp] theorem State.storeTitle_profile : (s.storeTitle u victim).profile = s.profile := by rw [State.storeTitle_frame]
@[simp] theorem State.storeTitle_profileStatus : (s.storeTitle u victim).profileStatus = s.profileStatus := by rw [State.storeTitle_frame]
@[simp] theorem State.storeTitle_store : (s.storeTitle u victim).store = s.store := by rw [State.storeTitle_frame]
@[simp] theorem State.storeTitle_draws : (s.storeTitle u victim).draws = s.draws := by rw [State.storeTitle_frame]
@[simp] theorem State.storeTitle_pending : (s.storeTitle u victim).pending = s.pending := by rw [State.storeTitle_frame]

/-- R65: the removals of a clear reach the titles, the miss list, the volumes and their sequence, the pace and the
notices. -/
theorem State.clearVolumes_frame : s.clearVolumes = { s with
    titles := s.clearVolumes.titles, missList := s.clearVolumes.missList, volumes := s.clearVolumes.volumes
    postPress := s.clearVolumes.postPress, governor := s.clearVolumes.governor
    notices := s.clearVolumes.notices } := by
  refine State.clearVolumes_induction (P := fun x => x = { s with
    titles := x.titles, missList := x.missList, volumes := x.volumes, postPress := x.postPress
    governor := x.governor, notices := x.notices }) (fun x v _ hx => ?_) rfl
  have hremove : x.removeVolume .cleared v = { x with
      titles := (x.removeVolume .cleared v).titles, missList := (x.removeVolume .cleared v).missList
      volumes := (x.removeVolume .cleared v).volumes, postPress := (x.removeVolume .cleared v).postPress
      governor := (x.removeVolume .cleared v).governor, notices := (x.removeVolume .cleared v).notices } := by
    rw [State.mk.injEq]
    simp
  rw [hremove, hx]

@[simp] theorem State.clearVolumes_phase : s.clearVolumes.phase = s.phase := by rw [State.clearVolumes_frame]
@[simp] theorem State.clearVolumes_clock : s.clearVolumes.clock = s.clock := by rw [State.clearVolumes_frame]
@[simp] theorem State.clearVolumes_ranges : s.clearVolumes.ranges = s.ranges := by rw [State.clearVolumes_frame]
@[simp] theorem State.clearVolumes_caseWindow : s.clearVolumes.caseWindow = s.caseWindow := by rw [State.clearVolumes_frame]
@[simp] theorem State.clearVolumes_jacketWindow : s.clearVolumes.jacketWindow = s.jacketWindow := by rw [State.clearVolumes_frame]
@[simp] theorem State.clearVolumes_bays : s.clearVolumes.bays = s.bays := by rw [State.clearVolumes_frame]
@[simp] theorem State.clearVolumes_reports : s.clearVolumes.reports = s.reports := by rw [State.clearVolumes_frame]
@[simp] theorem State.clearVolumes_stations : s.clearVolumes.stations = s.stations := by rw [State.clearVolumes_frame]
@[simp] theorem State.clearVolumes_supervisor : s.clearVolumes.supervisor = s.supervisor := by rw [State.clearVolumes_frame]
@[simp] theorem State.clearVolumes_profile : s.clearVolumes.profile = s.profile := by rw [State.clearVolumes_frame]
@[simp] theorem State.clearVolumes_profileStatus : s.clearVolumes.profileStatus = s.profileStatus := by rw [State.clearVolumes_frame]
@[simp] theorem State.clearVolumes_store : s.clearVolumes.store = s.store := by rw [State.clearVolumes_frame]
@[simp] theorem State.clearVolumes_draws : s.clearVolumes.draws = s.draws := by rw [State.clearVolumes_frame]
@[simp] theorem State.clearVolumes_pending : s.clearVolumes.pending = s.pending := by rw [State.clearVolumes_frame]

/-- R149, R155: the request is stored, and the step-down goes to RUN with the idle timer started or stopped. -/
theorem State.requestPace_eq (p : Pace) : s.requestPace p = { s with governor := { s.governor with
    requested := p, stepDown := .run
    idleDue := if p = .run then some (s.clock + s.profile.idle1 * 1000) else none } } := by
  unfold State.requestPace
  split <;> rfl

@[simp] theorem State.requestPace_phase (p : Pace) : (s.requestPace p).phase = s.phase := by rw [State.requestPace_eq]
@[simp] theorem State.requestPace_clock (p : Pace) : (s.requestPace p).clock = s.clock := by rw [State.requestPace_eq]
@[simp] theorem State.requestPace_titles (p : Pace) : (s.requestPace p).titles = s.titles := by rw [State.requestPace_eq]
@[simp] theorem State.requestPace_missList (p : Pace) : (s.requestPace p).missList = s.missList := by rw [State.requestPace_eq]
@[simp] theorem State.requestPace_ranges (p : Pace) : (s.requestPace p).ranges = s.ranges := by rw [State.requestPace_eq]
@[simp] theorem State.requestPace_volumes (p : Pace) : (s.requestPace p).volumes = s.volumes := by rw [State.requestPace_eq]
@[simp] theorem State.requestPace_postPress (p : Pace) : (s.requestPace p).postPress = s.postPress := by rw [State.requestPace_eq]
@[simp] theorem State.requestPace_caseWindow (p : Pace) : (s.requestPace p).caseWindow = s.caseWindow := by rw [State.requestPace_eq]
@[simp] theorem State.requestPace_jacketWindow (p : Pace) : (s.requestPace p).jacketWindow = s.jacketWindow := by rw [State.requestPace_eq]
@[simp] theorem State.requestPace_bays (p : Pace) : (s.requestPace p).bays = s.bays := by rw [State.requestPace_eq]
@[simp] theorem State.requestPace_reports (p : Pace) : (s.requestPace p).reports = s.reports := by rw [State.requestPace_eq]
@[simp] theorem State.requestPace_stations (p : Pace) : (s.requestPace p).stations = s.stations := by rw [State.requestPace_eq]
@[simp] theorem State.requestPace_supervisor (p : Pace) : (s.requestPace p).supervisor = s.supervisor := by rw [State.requestPace_eq]
@[simp] theorem State.requestPace_notices (p : Pace) : (s.requestPace p).notices = s.notices := by rw [State.requestPace_eq]
@[simp] theorem State.requestPace_profile (p : Pace) : (s.requestPace p).profile = s.profile := by rw [State.requestPace_eq]
@[simp] theorem State.requestPace_profileStatus (p : Pace) : (s.requestPace p).profileStatus = s.profileStatus := by rw [State.requestPace_eq]
@[simp] theorem State.requestPace_store (p : Pace) : (s.requestPace p).store = s.store := by rw [State.requestPace_eq]
@[simp] theorem State.requestPace_draws (p : Pace) : (s.requestPace p).draws = s.draws := by rw [State.requestPace_eq]
@[simp] theorem State.requestPace_pending (p : Pace) : (s.requestPace p).pending = s.pending := by rw [State.requestPace_eq]

end

/-- R112: an UNLOAD of a bay of the press. -/
theorem unloadBay_of_bay {b : Nat} {r : Bay} (hb : s.bays[b]? = some r) : unloadBay b s =
    ({ s with
        bays := s.bays.set b { r with state := .emptying, overdwellDue := none }
        volumes := s.volumes.map fun v => if v.number = r.volume.getD 0xFF then { v with state := .unloading } else v
        postPress := s.postPress ++ r.volume.toList },
      unloadAnswer b (r.volume.getD 0xFF)) := by
  simp only [unloadBay, State.bay?, hb]
  rfl

end Sys2Proof.Machine

/-! SUPPORT. What a change can do to the volume records and the case window, and to the other tables: the promises about
records by themselves. -/

namespace Sys2Proof.Machine

variable {c : Instr} {s t : State}

/-! ### Volume records and the case window -/

/-- R11: the records after a load: each as it was, or bound. -/
theorem State.storeTitle_volumes (u : Title) (victim : Option Nat) :
    ∃ f : Volume → Volume, (s.storeTitle u victim).volumes = s.volumes.map f
      ∧ ∀ v, f v = v ∨ ∃ p w, f v = bindVolume p w v := by
  rw [State.storeTitle_eq]
  refine State.foldl_bind_induction (P := fun x => ∃ f : Volume → Volume, x.volumes = s.volumes.map f
      ∧ ∀ v, f v = v ∨ ∃ p w, f v = bindVolume p w v) (fun x n hx => ?_) _
    ⟨id, by simp [State.stored], fun _ => .inl rfl⟩
  obtain ⟨f, hvol, hf⟩ := hx
  obtain e | ⟨v, w, -, -, e⟩ := x.bind_cases n <;> rw [e]
  · exact ⟨f, hvol, hf⟩
  · refine ⟨fun v => if (f v).number = n then bindVolume x.profile w (f v) else f v, by simp [hvol], fun v => ?_⟩
    dsimp only
    split
    · obtain e | ⟨p, w', e⟩ := hf v
      · exact .inr ⟨x.profile, w, by rw [e]⟩
      · exact .inr ⟨x.profile, w, by rw [e]; rfl⟩
    · exact hf v

section

variable (slot code : Nat) (g : GeometryGroup) (p : ProcessGroup)

@[simp] theorem newTitle_slot : (newTitle slot code g p).slot = slot := rfl
@[simp] theorem newTitle_code : (newTitle slot code g p).code = code := rfl
@[simp] theorem newTitle_retiring : (newTitle slot code g p).retiring = false := rfl
@[simp] theorem newTitle_volumeCount : (newTitle slot code g p).volumeCount = 0 := rfl
@[simp] theorem newTitle_admitted : (newTitle slot code g p).admitted = 0 := rfl
@[simp] theorem newTitle_outJacketed : (newTitle slot code g p).outJacketed = 0 := rfl
@[simp] theorem newTitle_outBare : (newTitle slot code g p).outBare = 0 := rfl
@[simp] theorem newTitle_diverted : (newTitle slot code g p).diverted = 0 := rfl
@[simp] theorem newTitle_cleared : (newTitle slot code g p).cleared = 0 := rfl

end

/-- R40, R58, R85: what one change can do to the volume records and the case window. -/
inductive State.Reworks (s t : State) : Prop
  | drop (hvol : t.volumes.Sublist s.volumes) (hwindow : t.caseWindow = s.caseWindow ∨ t.caseWindow = [])
      (hcause : (∃ k, ∃ v ∈ s.volumes, t = s.removeVolume k v) ∨ t = s.clearVolumes.clearLine.repace ∨ t.volumes = [] ∧ t.titles = [])
  | move (f : Volume → Volume) (hf : ∀ v : Volume, v.Moved (f v)) (hvol : t.volumes = s.volumes.map f)
      (hwindow : t.caseWindow = s.caseWindow)
  | see (tag : Tag) (hvol : t.volumes = s.volumes) (hroom : s.caseWindow.length < 8)
      (hwindow : t.caseWindow = s.caseWindow ++ [⟨tag, s.caseTagInUse tag⟩])
  | marry (v : Volume) (k : Nat) (e : WindowEntry) (hv : v ∈ s.volumes) (hst : v.state = .awaitCase)
      (hentry : s.caseWindow[k]? = some e) (hclear : e.double = false)
      (hvol : t.volumes = s.volumes.map fun w =>
        if w.number = v.number then { w with state := .casing, caseTag := some e.tag } else w)
      (hwindow : t.caseWindow = s.caseWindow.drop (k + 1))
  | bind (u : Title) (victim : Option Nat) (ht : t = s.storeTitle u victim)
      (hcode : ∀ w ∈ s.titles, w.code ≠ u.code) (hadmitted : u.admitted = 0)

/-- R40: a record moves to a state other than AWAIT_TITLE, with whatever else is not of its identity. -/
theorem State.Reworks.of_updVolume {n : Nat} {f : Volume → Volume}
    (hvol : t.volumes = s.volumes.map fun v => if v.number = n then f v else v) (hwindow : t.caseWindow = s.caseWindow)
    (hf : ∀ v : Volume, v.Moved (f v)) : s.Reworks t := .move _ (fun v => (hf v).ite) hvol hwindow

/-- R113 to R119: the volume of a bay moves on. -/
theorem State.updBayVolume_volumes (r : Bay) {f : Volume → Volume} (hf : ∀ v : Volume, v.Moved (f v)) :
    ∃ g : Volume → Volume, (∀ v : Volume, v.Moved (g v)) ∧ (s.updBayVolume r f).volumes = s.volumes.map g := by
  unfold State.updBayVolume
  split
  · exact ⟨id, fun v => .refl v, by simp⟩
  · exact ⟨_, fun v => (hf v).ite, State.updVolume_volumes ..⟩

/-- R58: a clear takes records away and leaves the others. -/
theorem State.clearVolumes_sublist : s.clearVolumes.volumes.Sublist s.volumes :=
  State.clearVolumes_induction (P := fun u => u.volumes.Sublist s.volumes)
    (fun u v _ hu => by simpa using List.filter_sublist.trans hu) (.refl _)

theorem State.loadVolume_volumes (v : Volume) (b : Nat) : (loadVolume v b s).1.volumes = s.volumes.map fun u =>
    if u.number = v.number then { u with state := .loading, bay := some b, dwell := some (s.dwellFor v) } else u := by
  simp [loadVolume]

theorem Change.reworks (h : Change c s t) : s.Reworks t := by
  cases h with
  | ports | raise | clock | post | unpost | jackets | repace | govern | levels | setPace | releaseLatches
  | dropTitles | retitle | touch | setRange | clearRange | writeEnables | clearFlags | setSection | setPacedSection
  | beginSave | idleBay => exact .move id (fun v => .refl v) (by simp) (by simp)
  | remove k v hv => exact .drop (by simp) (by simp) (.inl ⟨k, v, hv, rfl⟩)
  | seeCase tag hroom => exact .see tag rfl hroom rfl
  | annotate f hf => exact .move f (fun v => (hf v).toMoved) rfl rfl
  | marry v k e hv hst hentry hclear => exact .marry v k e hv hst hentry hclear rfl rfl
  | cased v => exact .of_updVolume rfl rfl fun w => { Volume.Moved.refl w with waiting := by simp }
  | finish v f => exact .of_updVolume rfl rfl fun w => { Volume.Moved.refl w with waiting := by simp }
  | miss v => exact .of_updVolume (State.goMissing_volumes v.number) (by simp) fun w => { Volume.Moved.refl w with waiting := by simp }
  | pass v => exact .of_updVolume rfl rfl fun w => { Volume.Moved.refl w with waiting := by simp }
  | unload b r hb =>
    rw [unloadBay_of_bay hb]
    exact .of_updVolume rfl rfl fun w => { Volume.Moved.refl w with waiting := by simp }
  | load v b r => exact .of_updVolume (State.loadVolume_volumes v b) (by simp [loadVolume]) fun w => { Volume.Moved.refl w with waiting := by simp }
  | stage b r r' f hb hr hr' hvol hf =>
    obtain ⟨g, hg, e⟩ := State.updBayVolume_volumes (s := s.setBay b r') r hf.moved
    exact .move g hg e (by simp)
  | empty b r was =>
    obtain ⟨g, hg, e⟩ := State.updBayVolume_volumes (s := s.setBay b (emptiedBay s.clock r)) r
      (f := fun v => { v with state := .onOutfeed, bay := none })
      fun w => { Volume.Moved.refl w with waiting := by simp }
    exact .move g hg (by simpa using e) (by simp)
  | reject b r was =>
    obtain ⟨g, hg, e⟩ := State.updBayVolume_volumes (s := s) r
      (f := fun v => { v with state := .cased, bay := none, dwell := none })
      fun w => { Volume.Moved.refl w with waiting := by simp }
    exact .move g hg (by simpa using e) (by simp)
  | storeTitle slot code g p victim hcode =>
    exact .bind _ victim rfl (fun w hw => by simpa using List.find?_eq_none.1 hcode w hw) rfl
  | endSave t _ h =>
    obtain ⟨-, e⟩ | ⟨m, -, e⟩ := execProfileSaveDone_cases s <;> rw [e] at h <;> cases h <;>
      exact .move id (fun v => .refl v) (by simp) (by simp)
  | failSave n t _ h =>
    obtain ⟨-, e⟩ | ⟨m, -, e⟩ := execProfileSaveFailed_cases s n <;> rw [e] at h <;> cases h <;>
      exact .move id (fun v => .refl v) (by simp) (by simp)
  | loadProfile a t _ h =>
    obtain rfl | ⟨-, g, n, o, k, -, -, -, -, rfl⟩ := execProfileLoad_cases h <;>
      exact .move id (fun v => .refl v) (by simp) (by simp)
  | reset t _ h => cases h; exact .drop (by simp [State.reset]) (.inr rfl) (.inr (.inr ⟨rfl, rfl⟩))
  | clearLine =>
    exact .drop (by simpa [State.clearLine] using State.clearVolumes_sublist) (.inr (by simp [State.clearLine]))
      (.inr (.inl rfl))

end Sys2Proof.Machine

/-! SUPPORT. What an admission does, and the promises about each record by itself (R37, R39, R40). -/

namespace Sys2Proof.Machine

variable {c : Instr} {s t u : State}

/-! ### The admission -/

/-- R39, R48: a record as it is made, under a free number and for a serial no record carries. -/
structure State.Fresh (s : State) (w : Volume) : Prop where
  number : ∀ v ∈ s.volumes, v.number ≠ w.number
  serial : ∀ v ∈ s.volumes, v.serial ≠ w.serial
  slot : w.number < 64
  room : s.volumes.length < 64
  state : w.state = .awaitTitle
  bound : w.bound = none
  ungauged : w.ungauged = false
  caseTag : w.caseTag = none
  bay : w.bay = none

theorem State.freeVolumeSlot_spec {n : Nat} (h : s.freeVolumeSlot = some n) :
    n < 64 ∧ ∀ v ∈ s.volumes, v.number ≠ n := by
  refine ⟨by simpa [Config.volumeSlots] using List.mem_of_find?_eq_some h, fun v hv => ?_⟩
  have hfree := List.find?_some h
  simp only [List.all_eq_true, bne_iff_ne, ne_eq] at hfree
  exact hfree v hv

/-- R52: the titles after a block was bound to the title `t`. -/
def State.titlesCountedIn (s : State) (code : Nat) : List Title :=
  (s.titles.filter fun u => u.code == code).map countIn ++ s.titles.filter fun u => u.code != code

/-- R52, R53: the block admitted is bound to the title that is resident, or waits for the one that is absent. -/
theorem State.Admits.cases (h : s.Admits u) : ∃ w : Volume, s.Fresh w ∧
    ((∃ t, s.title? w.title = some t ∧ t.retiring = false ∧
        u = (State.handAdmit { s with
          volumes := s.volumes ++ [bindVolume s.profile t w], titles := s.titlesCountedIn w.title }).repace) ∨
      (s.title? w.title = none ∧ (s.missList.length < 8 ∨ w.title ∈ s.missList) ∧
        u = (State.handAdmit (State.appendMiss w.title { s with volumes := s.volumes ++ [w] })).repace)) := by
  obtain ⟨n, serial, raw, e, hroom, hslot, hserial, hcode, rfl⟩ := h
  obtain ⟨hn, hfree⟩ := State.freeVolumeSlot_spec hslot
  refine ⟨newVolume n serial e.code (unitNumber e serial) raw,
    ⟨hfree, hserial, hn, hroom, rfl, rfl, rfl, rfl, rfl⟩, ?_⟩
  obtain ⟨t, ht, hret⟩ | ⟨hnone, hmiss⟩ := hcode
  · exact .inl ⟨t, ht, hret, admitBlock_of_resident _ _ _ hfree ht⟩
  · exact .inr ⟨hnone, hmiss, admitBlock_of_absent _ _ _ hnone⟩

/-- R39: the record of the block admitted stands at the tail of the admission order, bound or waiting. -/
theorem State.Admits.volumes (h : s.Admits u) : ∃ w x : Volume, s.Fresh w ∧ u.volumes = s.volumes ++ [x] ∧
    (x = w ∨ ∃ p t, x = bindVolume p t w) := by
  obtain ⟨w, hw, ⟨t, -, -, rfl⟩ | ⟨-, -, rfl⟩⟩ := h.cases
  · exact ⟨w, bindVolume s.profile t w, hw, by simp, .inr ⟨_, _, rfl⟩⟩
  · exact ⟨w, w, hw, by simp, .inl rfl⟩

/-! ### Numbers and serials -/

/-- R37, R39: no change gives a record another number, or makes one. -/
theorem State.Reworks.map_sublist (h : s.Reworks t) {α : Type} (f : Volume → α)
    (hmove : ∀ v w : Volume, v.Moved w → f w = f v)
    (hmarry : ∀ (v : Volume) (st : VolumeState) (g : Option Tag), f { v with state := st, caseTag := g } = f v)
    (hbind : ∀ (v : Volume) (p : Profile) (t : Title), f (bindVolume p t v) = f v) :
    (t.volumes.map f).Sublist (s.volumes.map f) := by
  have hmap {g : Volume → Volume} (hvol : t.volumes = s.volumes.map g) (hg : ∀ v, f (g v) = f v) :
      (t.volumes.map f).Sublist (s.volumes.map f) := by
    rw [hvol, List.map_map, show f ∘ g = f from funext hg]
  cases h with
  | drop hvol => exact hvol.map f
  | move g hg hvol => exact hmap hvol fun v => hmove v (g v) (hg v)
  | see tag hvol => rw [hvol]
  | marry v k e hv hst hentry hclear hvol =>
    refine hmap hvol fun w => ?_
    split
    · exact hmarry ..
    · rfl
  | bind w victim ht =>
    obtain ⟨g, hvol, hg⟩ := s.storeTitle_volumes w victim
    refine hmap (ht ▸ hvol) fun v => ?_
    obtain e | ⟨p, x, e⟩ := hg v <;> rw [e]
    exact hbind ..

theorem State.Reworks.numbers (h : s.Reworks t) :
    (t.volumes.map Volume.number).Sublist (s.volumes.map Volume.number) :=
  h.map_sublist _ (fun _ _ h => h.number) (fun _ _ _ => rfl) fun _ _ _ => rfl

theorem State.Reworks.serials (h : s.Reworks t) :
    (t.volumes.map Volume.serial).Sublist (s.volumes.map Volume.serial) :=
  h.map_sublist _ (fun _ _ h => h.serial) (fun _ _ _ => rfl) fun _ _ _ => rfl

theorem State.Admits.numbers_nodup (h : s.Admits u) (hs : (s.volumes.map Volume.number).Nodup) :
    (u.volumes.map Volume.number).Nodup := by
  obtain ⟨w, x, hw, hvol, hx⟩ := h.volumes
  have hnumber : x.number = w.number := by obtain rfl | ⟨p, t, rfl⟩ := hx <;> rfl
  simpa [hvol, hnumber, List.nodup_append, hs] using hw.number

theorem State.Admits.serials_nodup (h : s.Admits u) (hs : (s.volumes.map Volume.serial).Nodup) :
    (u.volumes.map Volume.serial).Nodup := by
  obtain ⟨w, x, hw, hvol, hx⟩ := h.volumes
  have hserial : x.serial = w.serial := by obtain rfl | ⟨p, t, rfl⟩ := hx <;> rfl
  simpa [hvol, hserial, List.nodup_append, hs] using hw.serial

theorem Change.numbers_nodup (h : Change c s t) (hs : (s.volumes.map Volume.number).Nodup) :
    (t.volumes.map Volume.number).Nodup := hs.sublist h.reworks.numbers

/-! ### Flags of waiting volumes, and identities -/

theorem State.Admits.waitersUngauged (h : s.Admits u) (hs : s.WaitersUngauged) : u.WaitersUngauged := by
  obtain ⟨w, x, hw, hvol, hx⟩ := h.volumes
  intro v hv hst
  rw [hvol, List.mem_append, List.mem_singleton] at hv
  obtain hv | rfl := hv
  · exact hs v hv hst
  · obtain rfl | ⟨p, t, rfl⟩ := hx
    · exact hw.ungauged
    · cases hst

theorem Change.waitersUngauged (h : Change c s t) (hs : s.WaitersUngauged) : t.WaitersUngauged := by
  intro v hv hst
  cases h.reworks with
  | drop hvol => exact hs v (hvol.subset hv) hst
  | move f hf hvol =>
    obtain ⟨w, hw, rfl⟩ := List.mem_map.1 (hvol ▸ hv)
    exact (hf w).sameUngauged.trans (hs w hw ((hf w).waiting hst))
  | see tag hvol => exact hs v (hvol ▸ hv) hst
  | marry w k e hw hst' hentry hclear hvol =>
    obtain ⟨x, hx, rfl⟩ := List.mem_map.1 (hvol ▸ hv)
    split at hst
    · cases hst
    · next hne => rw [if_neg hne]; exact hs x hx hst
  | bind x victim ht =>
    obtain ⟨f, hvol, hf⟩ := s.storeTitle_volumes x victim
    obtain ⟨w, hw, rfl⟩ := List.mem_map.1 (hvol ▸ ht ▸ hv)
    obtain e | ⟨p, y, e⟩ := hf w
    · rw [e] at hst ⊢; exact hs w hw hst
    · rw [e] at hst; cases hst

/-- R39: each record after a change is one that stood before it. -/
theorem Change.sameIdentity (h : Change c s t) (hnodup : (s.volumes.map Volume.number).Nodup)
    (hs : s.WaitersUngauged) {w : Volume} (hw : w ∈ t.volumes) : ∃ v ∈ s.volumes, v.SameIdentity w := by
  cases h.reworks with
  | drop hvol => exact ⟨w, hvol.subset hw, .refl w⟩
  | move f hf hvol =>
    obtain ⟨v, hv, rfl⟩ := List.mem_map.1 (hvol ▸ hw)
    exact ⟨v, hv, (hf v).toSameIdentity⟩
  | see tag hvol => exact ⟨w, hvol ▸ hw, .refl w⟩
  | marry x k e hx hst hentry hclear hvol =>
    obtain ⟨v, hv, rfl⟩ := List.mem_map.1 (hvol ▸ hw)
    refine ⟨v, hv, ?_⟩
    split
    · exact { Volume.SameIdentity.refl v with }
    · exact .refl v
  | bind x victim ht hcode hadmitted =>
    rw [ht, State.storeTitle_of_nodup victim hnodup (by simp [hadmitted]) hcode] at hw
    obtain ⟨v, hv, rfl⟩ := List.mem_map.1 hw
    refine ⟨v, hv, ?_⟩
    split
    · next hwait =>
      have hst : v.state = .awaitTitle := by simpa using (Bool.and_eq_true_iff.1 hwait).1
      exact { Volume.SameIdentity.refl v with ungauged := fun hflag => by simp [hs v hv hst] at hflag }
    · exact .refl v

/-- R39: the records of `t` that go by the number and the serial of a record of `s` are those records. -/
structure State.Identified (s t : State) : Prop where
  nodup : (t.volumes.map Volume.number).Nodup
  waiters : t.WaitersUngauged
  same : ∀ v ∈ s.volumes, ∀ w ∈ t.volumes, w.number = v.number → w.serial = v.serial → v.SameIdentity w

theorem State.Identified.of_change (h : s.Identified t) (hchange : Change c t u) : s.Identified u where
  nodup := hchange.numbers_nodup h.nodup
  waiters := hchange.waitersUngauged h.waiters
  same v hv w hw hn hserial := by
    obtain ⟨x, hx, hsame⟩ := hchange.sameIdentity h.nodup h.waiters hw
    exact (h.same v hv x hx (hsame.number.symm.trans hn) (hsame.serial.symm.trans hserial)).trans hsame

/-- Settles O60: one admission takes a free number, and each change after it keeps every record's identity. -/
theorem volumeRecordsKeepIdentity : Obligations.VolumeRecordsKeepIdentity := by
  unfold Obligations.VolumeRecordsKeepIdentity
  refine ⟨fun s t hs h => step_keeps (P := State.WaitersUngauged) (fun _ _ hs h => h.waitersUngauged hs)
    (fun _ _ _ hs h => h.waitersUngauged hs) (fun _ hs => hs) (fun _ _ hs => hs) h hs, ?_⟩
  intro c s t v w hbounded hwaiters h hv hw hn hserial
  have hstart : s.Identified s :=
    ⟨hbounded.volumeNumbersDistinct, hwaiters, fun v hv w hw hn _ =>
      State.eq_of_number_eq hbounded.volumeNumbersDistinct hw hv hn ▸ .refl w⟩
  have hall : s.Identified t := by
    obtain ⟨u, hu, hchain⟩ := exists_admits_changes_exec h
    have hadmitted : s.Identified u := by
      obtain rfl | hu := hu
      · exact hstart
      · refine ⟨hu.numbers_nodup hbounded.volumeNumbersDistinct, hu.waitersUngauged hwaiters, ?_⟩
        intro v hv w hw hn hserial
        obtain ⟨x, y, hx, hvol, hy⟩ := hu.volumes
        rw [hvol, List.mem_append, List.mem_singleton] at hw
        obtain hw | rfl := hw
        · exact hstart.same v hv w hw hn hserial
        · have hnumber : w.number = x.number := by obtain rfl | ⟨p, t, rfl⟩ := hy <;> rfl
          exact absurd (hn.symm.trans hnumber) (hx.number v hv)
    clear h hw
    induction hchain with
    | refl => exact hadmitted
    | tail _ hchange ih => exact ih.of_change hchange
  have hsame := hall.same v hv w hw hn hserial
  exact ⟨hsame.title, hsame.unit, hsame.raw, hsame.ungauged, hsame.overpressed, hsame.pressFault, hsame.unverified,
    hsame.returned, hsame.outUngauged⟩

end Sys2Proof.Machine

/-! SUPPORT. Which changes reach the fields that have an owner (R29, R32, R149, R151, R180 to R183, R187, R188). -/

namespace Sys2Proof.Machine

variable {c : Instr} {s t u : State}

/-! ### Clears and loads -/

theorem State.removeVolume_governor (k : Removal) (v : Volume) : ∃ p : Pace,
    (s.removeVolume k v).governor = { s.governor with effective := p } := by
  obtain ⟨-, e⟩ | ⟨-, e⟩ := s.removeVolume_cases k v <;> rw [e, State.repace_governor] <;> exact ⟨_, by simp; rfl⟩

theorem State.clearVolumes_governor : ∃ p : Pace, s.clearVolumes.governor = { s.governor with effective := p } :=
  State.clearVolumes_induction (P := fun u => ∃ p : Pace, u.governor = { s.governor with effective := p })
    (fun u v _ hu => by
      obtain ⟨p, hp⟩ := hu
      obtain ⟨q, hq⟩ := u.removeVolume_governor .cleared v
      exact ⟨q, by rw [hq, hp]⟩)
    ⟨s.governor.effective, rfl⟩

theorem State.raised_clearVolumes : s.notices.Raised s.clearVolumes.notices :=
  State.clearVolumes_induction (P := fun u => s.notices.Raised u.notices)
    (fun _ v _ hu => hu.trans (State.raised_removeVolume .cleared v)) (.refl _)

theorem State.raised_storeTitle (w : Title) (victim : Option Nat) :
    s.notices.Raised (s.storeTitle w victim).notices := by
  rw [State.storeTitle_eq]
  refine State.foldl_bind_induction (P := fun x => s.notices.Raised x.notices) (fun x n hx => ?_) _ ?_
  · obtain e | ⟨v, y, -, -, e⟩ := x.bind_cases n <;> rw [e] <;> exact hx
  · exact State.raised_evict victim

/-! ### The owners -/

/-- The fields with an owner after a command that is not theirs. -/
structure State.Owned (c : Instr) (s t : State) : Prop where
  ranges : (∀ i b k code u, c ≠ .rangeSet i b k code u) → (∀ i, c ≠ .rangeClear i) → t.ranges = s.ranges
  requested : (∀ n, c ≠ .paceSet n) → t.governor.requested = s.governor.requested
  enables : (∀ m, c ≠ .noticeEnable m) → t.notices.enables = s.notices.enables
  profile : (∀ n fields, c ≠ .profileSet n fields) → (∀ a, c ≠ .profileLoad a) → t.profile = s.profile
  store : c ≠ .profileSave → c ≠ .profileSaveDone → (∀ n, c ≠ .profileSaveFailed n) → t.store = s.store
  clock : s.clock ≤ t.clock
  flagged : (∀ m, c ≠ .noticeClear m) → ∃ x, t.notices.flags = s.notices.flags ||| x
  raised : (∀ m, c ≠ .noticeEnable m) → (∀ m, c ≠ .noticeClear m) → s.notices.Raised t.notices
  unflagged : (∀ m, c ≠ .noticeEnable m) → ∀ i, s.notices.enables.getLsbD i = false →
    s.notices.flags.getLsbD i = false → t.notices.flags.getLsbD i = false
  latches : c ≠ .paceRelease → (s.governor.guardLatch = true → t.governor.guardLatch = true)
    ∧ (s.governor.glueLatch = true → t.governor.glueLatch = true)

/-- A kind whose enable is clear is not flagged by what raises notices. -/
theorem NoticeUnit.Raised.unflagged {m n : NoticeUnit} (h : m.Raised n) (i : Nat) (henable : m.enables.getLsbD i = false)
    (hflag : m.flags.getLsbD i = false) : n.flags.getLsbD i = false := by
  obtain ⟨-, x, hx⟩ := h
  simp [hx, henable, hflag]

/-- The owned fields where only notices were raised. -/
theorem State.Owned.of_raised (hranges : t.ranges = s.ranges) (hrequested : t.governor.requested = s.governor.requested)
    (hprofile : t.profile = s.profile) (hstore : t.store = s.store) (hclock : s.clock ≤ t.clock)
    (hnotices : s.notices.Raised t.notices)
    (hguard : s.governor.guardLatch = true → t.governor.guardLatch = true)
    (hglue : s.governor.glueLatch = true → t.governor.glueLatch = true) : s.Owned c t where
  ranges _ _ := hranges
  requested _ := hrequested
  enables _ := hnotices.1
  profile _ _ := hprofile
  store _ _ _ := hstore
  clock := hclock
  flagged _ := hnotices.2.imp' _ fun _ hx => hx
  raised _ _ := hnotices
  unflagged _ := hnotices.unflagged
  latches _ := ⟨hguard, hglue⟩

theorem State.Owned.refl (s : State) : s.Owned c s := .of_raised rfl rfl rfl rfl le_rfl (.refl _) id id

theorem State.Owned.trans (h : s.Owned c t) (g : t.Owned c u) : s.Owned c u where
  ranges a b := (g.ranges a b).trans (h.ranges a b)
  requested a := (g.requested a).trans (h.requested a)
  enables a := (g.enables a).trans (h.enables a)
  profile a b := (g.profile a b).trans (h.profile a b)
  store a b d := (g.store a b d).trans (h.store a b d)
  clock := h.clock.trans g.clock
  flagged a := by
    obtain ⟨x, hx⟩ := h.flagged a
    obtain ⟨y, hy⟩ := g.flagged a
    exact ⟨x ||| y, by rw [hy, hx, BitVec.or_assoc]⟩
  raised a b := (h.raised a b).trans (g.raised a b)
  unflagged a i henable hflag := g.unflagged a i (by rw [h.enables a, henable]) (h.unflagged a i henable hflag)
  latches a := ⟨(g.latches a).1 ∘ (h.latches a).1, (g.latches a).2 ∘ (h.latches a).2⟩

theorem State.Owned.repace (h : s.Owned c t) : s.Owned c t.repace := by
  refine h.trans (.of_raised ?_ ?_ ?_ ?_ ?_ State.raised_repace ?_ ?_) <;> simp [State.repace_governor]

theorem State.Owned.levelRises (k : Notice) (was : Bool) (h : s.Owned c t) : s.Owned c (t.levelRises k was) := by
  refine h.trans (.of_raised ?_ ?_ ?_ ?_ ?_ (State.raised_levelRises k was) ?_ ?_) <;> simp

theorem State.Owned.raise (k : Notice) (h : s.Owned c t) : s.Owned c (t.raise k) :=
  h.trans (.of_raised rfl rfl rfl rfl le_rfl (State.raised_raise k) id id)

/-- The owned fields of an update that leaves them. -/
theorem State.Owned.of_eq (hranges : t.ranges = s.ranges) (hgovernor : t.governor = s.governor)
    (hprofile : t.profile = s.profile) (hstore : t.store = s.store) (hclock : t.clock = s.clock)
    (hnotices : t.notices = s.notices) : s.Owned c t :=
  .of_raised hranges (by rw [hgovernor]) hprofile hstore hclock.ge (hnotices ▸ .refl _) (by rw [hgovernor]; exact id)
    (by rw [hgovernor]; exact id)

theorem State.Admits.owned (h : s.Admits u) : s.Owned c u := by
  obtain ⟨w, -, ⟨t, -, -, rfl⟩ | ⟨-, -, rfl⟩⟩ := h.cases
  · refine State.Owned.repace (.of_raised ?_ ?_ ?_ ?_ ?_ ?_ ?_ ?_) <;>
      simp [State.handAdmit, State.restartIdle] <;> split <;> simp [NoticeUnit.Raised.refl]
  · refine State.Owned.repace ?_
    have hmiss : s.Owned c (State.appendMiss w.title { s with volumes := s.volumes ++ [w] }) := by
      unfold State.appendMiss
      split
      · exact .of_eq rfl rfl rfl rfl rfl rfl
      · exact State.Owned.levelRises _ _ (.of_eq rfl rfl rfl rfl rfl rfl)
    refine hmiss.trans ?_
    unfold State.handAdmit
    split
    · exact .of_raised rfl rfl rfl rfl le_rfl (.refl _) id id
    · exact .refl _

theorem Change.owned (h : Change c s t) (hc : c ≠ .deviceReset) : s.Owned c t := by
  have hsame : s.Owned c s := .refl s
  cases h with
  | ports | post | unpost | seeCase | jackets | annotate | cased | finish | pass | dropTitles | retitle | touch =>
    exact .of_eq rfl rfl rfl rfl rfl rfl
  | raise k => exact hsame.raise k
  | clock n => exact .of_raised rfl rfl rfl rfl (by simp) (.refl _) id id
  | marry v k e => exact .of_eq rfl rfl rfl rfl rfl rfl
  | miss v => exact State.Owned.levelRises _ _ (.of_eq rfl rfl rfl rfl rfl rfl)
  | remove k v =>
    obtain ⟨p, hp⟩ := s.removeVolume_governor k v
    exact .of_raised (by simp) (by rw [hp]) (by simp) (by simp) (by simp) (State.raised_removeVolume k v)
      (by rw [hp]; exact id) (by rw [hp]; exact id)
  | unload b r hb => rw [unloadBay_of_bay hb]; exact .of_eq rfl rfl rfl rfl rfl rfl
  | load v b r => exact State.Owned.repace (.of_eq rfl rfl rfl rfl rfl rfl)
  | stage b r r' f => exact .of_eq (by simp) (by simp) (by simp) (by simp) (by simp) (by simp)
  | empty b r was =>
    exact .repace (.levelRises _ _ (.of_eq (by simp) (by simp) (by simp) (by simp) (by simp) (by simp)))
  | reject b r was => exact .levelRises _ _ (.of_eq (by simp) (by simp) (by simp) (by simp) (by simp) (by simp))
  | idleBay b r r' was => exact .repace (.levelRises _ _ (.of_eq rfl rfl rfl rfl rfl rfl))
  | repace => exact hsame.repace
  | govern g was hreq hguard hglue =>
    exact .repace (.levelRises _ _ (.of_raised rfl hreq rfl rfl le_rfl (.refl _) hguard hglue))
  | levels l => exact .of_raised rfl rfl rfl rfl le_rfl (.refl _) id id
  | setPace n p e =>
    refine .repace ?_
    subst e
    rw [State.requestPace_eq]
    exact { State.Owned.refl (c := .paceSet n) s with requested := fun h => absurd rfl (h n) }
  | releaseLatches e =>
    subst e
    exact .repace { State.Owned.refl (c := .paceRelease) s with latches := fun h => absurd rfl h }
  | storeTitle slot code g p victim =>
    exact .of_raised (by simp) (by simp) (by simp) (by simp) (by simp) (State.raised_storeTitle _ _) (by simp) (by simp)
  | setRange i b k code unit e =>
    subst e
    exact { State.Owned.refl (c := .rangeSet i b k code unit) s with
      ranges := fun h => absurd rfl (h i b k code unit) }
  | clearRange i r e =>
    subst e
    exact { State.Owned.refl (c := .rangeClear i) s with ranges := fun _ h => absurd rfl (h i) }
  | writeEnables m mask e =>
    subst e
    exact { State.Owned.refl (c := .noticeEnable m) s with
      enables := fun h => absurd rfl (h m)
      flagged := fun _ => ⟨_, rfl⟩
      raised := fun h => absurd rfl (h m)
      unflagged := fun h => absurd rfl (h m) }
  | clearFlags m mask e =>
    subst e
    exact { State.Owned.refl (c := .noticeClear m) s with
      flagged := fun h => absurd rfl (h m)
      raised := fun _ h => absurd rfl (h m)
      unflagged := fun _ i henable hflag => by simp [henable, hflag] }
  | setSection n fields vals e =>
    subst e
    exact { State.Owned.refl (c := .profileSet n fields) s with profile := fun h => absurd rfl (h n fields) }
  | setPacedSection n fields vals g was e hn hlen hgood hreq hguard hglue =>
    subst e
    exact .repace (.levelRises _ _ { State.Owned.refl (c := .profileSet n fields) s with
      requested := fun _ => hreq
      profile := fun h => absurd rfl (h n fields)
      latches := fun _ => ⟨hguard, hglue⟩ })
  | beginSave e =>
    subst e
    exact { State.Owned.refl (c := .profileSave) s with store := fun h => absurd rfl h }
  | endSave t e h =>
    subst e
    obtain ⟨-, e⟩ | ⟨m, -, e⟩ := execProfileSaveDone_cases s <;> rw [e] at h <;> cases h
    · exact .refl s
    · exact { State.Owned.refl (c := .profileSaveDone) s with store := fun _ h => absurd rfl h }
  | failSave n t e h =>
    subst e
    obtain ⟨-, e⟩ | ⟨m, -, e⟩ := execProfileSaveFailed_cases s n <;> rw [e] at h <;> cases h
    · exact .refl s
    · exact .raise _ { State.Owned.refl (c := .profileSaveFailed n) s with store := fun _ _ h => absurd rfl (h n) }
  | loadProfile a t e h =>
    subst e
    obtain rfl | ⟨-, g, n, o, k, hreq, hguard, hglue, hn, rfl⟩ := execProfileLoad_cases h
    · exact .refl t
    · have hraised : s.Owned (.profileLoad a) { s with governor := g, notices := n } :=
        .of_raised rfl hreq rfl rfl le_rfl hn hguard hglue
      exact .repace { hraised with profile := fun _ h => absurd rfl (h a) }
  | reset t e => exact absurd e hc
  | clearLine =>
    obtain ⟨p, hp⟩ := s.clearVolumes_governor
    have hraised : s.notices.Raised s.clearVolumes.clearLine.notices := by
      simpa only [State.clearLine] using State.raised_clearVolumes (s := s)
    refine .repace (.of_raised ?_ ?_ ?_ ?_ ?_ hraised ?_ ?_) <;> simp [State.clearLine, hp]

/-- Beside DEVICE_RESET, a command leaves the fields of the other commands. -/
theorem owned_exec (h : exec c s = .next t) (hc : c ≠ .deviceReset) : s.Owned c t :=
  exec_keeps (P := fun u => s.Owned c u) (fun _ _ hs hu => hs.trans hu.owned)
    (fun _ _ hs hu => hs.trans (hu.owned hc)) h (.refl s)

/-- Settles O59, field by field: a command that is not the owner of a field leaves it. -/
theorem ownersChangeRecords : Obligations.OwnersChangeRecords := by
  unfold Obligations.OwnersChangeRecords
  refine ⟨fun c s t h hc => ?_, fun c s t h hc => ?_⟩ <;> have hown := owned_exec h hc
  · refine ⟨fun hne => ?_, fun hne => ?_, fun hne => ?_, fun hne => ?_, fun hne => ?_⟩ <;> by_contra hcon <;>
      push Not at hcon
    · exact hne (hown.ranges hcon.1 hcon.2)
    · exact hne (hown.requested hcon)
    · exact hne (hown.enables hcon)
    · exact hne (hown.profile hcon.1 hcon.2)
    · exact hne (hown.store hcon.1 hcon.2.1 hcon.2.2)
  · refine ⟨hown.clock, fun hclear => ?_, fun henable k => hown.unflagged henable (noticeBit k), hown.latches⟩
    obtain ⟨x, hx⟩ := hown.flagged hclear
    rw [hx]
    ext i hi
    simp only [BitVec.getElem_and, BitVec.getElem_or]
    cases s.notices.flags[i] <;> rfl

end Sys2Proof.Machine

/-! SUPPORT. The range map and the profile over every step (R25, R31, R186 to R188). -/

namespace Sys2Proof.Machine

variable {c : Instr} {s t u : State}

/-! ### Ranges -/

theorem RangeEntry.Apart.symm {a b : RangeEntry} (h : a.Apart b) : b.Apart a :=
  fun hb ha hsize hbase => h ha hb hsize.symm hbase.symm

/-- R31: an entry written with a run that no other enabled entry covers. -/
theorem State.RangesSound.setRange {i : Nat} {e : RangeEntry} (h : s.RangesSound) (he : e.enabled = true → e.Sound)
    (hapart : ∀ j r, s.ranges[j]? = some r → j ≠ i → e.Apart r) : (s.setRange i e).RangesSound where
  sound r hr := by
    obtain hr | rfl := List.mem_or_eq_of_mem_set hr
    · exact h.sound r hr
    · exact he
  apart := by
    have hold := List.pairwise_iff_getElem.1 h.apart
    refine List.pairwise_iff_getElem.2 fun a b ha hb hab => ?_
    simp only [State.setRange_ranges, List.length_set] at ha hb
    simp only [State.setRange_ranges, List.getElem_set]
    split
    · next hia =>
      rw [if_neg (by omega)]
      exact hapart b _ (List.getElem?_eq_getElem hb) (by omega)
    · split
      · exact (hapart a _ (List.getElem?_eq_getElem ha) (by omega)).symm
      · exact hold a b ha hb hab

/-- R31: without a conflict the new run lies apart from every other entry. -/
theorem State.apart_of_rangeConflict {i base k code unit : Nat} (h : s.rangeConflict i base k = none) (j : Nat)
    (r : RangeEntry) (hr : s.ranges[j]? = some r) (hj : j ≠ i) : RangeEntry.Apart ⟨true, base, k, code, unit⟩ r := by
  intro _ henabled hsize hbase
  have := List.find?_eq_none.1 (Option.map_eq_none_iff.1 h) (r, j) (List.mem_zipIdx_iff_getElem?.2 hr)
  simp_all

/-- R30: what RANGE_SET stores is aligned, and no greater than the base that was sent. -/
theorem sound_of_rangeValuesGood {i base k code unit : Nat} (hgood : rangeValuesGood i k code unit = true)
    (hbase : base ≤ 4294967295) (hcode : code ≤ 16777215) :
    RangeEntry.Sound ⟨true, alignBase base k, k, code, unit⟩ := by
  obtain ⟨-, hk, hk', hne, hunit⟩ := (rangeValuesGood_iff hcode).1 hgood
  have haligned : alignBase base k % 2 ^ k = 0 := by rw [alignBase_eq_div_mul]; exact Nat.mul_mod_left ..
  exact ⟨hk, hk', haligned, (Nat.sub_le ..).trans hbase, Nat.one_le_iff_ne_zero.2 hne, hcode, hunit⟩

theorem State.RangesSound.of_ranges_eq (h : s.RangesSound) (e : t.ranges = s.ranges) : t.RangesSound :=
  ⟨e ▸ h.sound, e ▸ h.apart⟩

theorem Change.rangesSound (h : Change c s t) (hc : c.wellFormed = true) (hs : s.RangesSound) : t.RangesSound := by
  have hleft (hreset : c ≠ .deviceReset) (hset : ∀ i b k code u, c ≠ .rangeSet i b k code u)
      (hclear : ∀ i, c ≠ .rangeClear i) : t.RangesSound := hs.of_ranges_eq ((h.owned hreset).ranges hset hclear)
  cases h with
  | setRange i base k code unit e hgood hfree =>
    subst e
    have hfits : base < 2 ^ 32 ∧ code < 2 ^ 24 := by
      simp only [Instr.wellFormed, fits, Bool.and_eq_true, decide_eq_true_eq] at hc
      omega
    exact hs.setRange (fun _ => sound_of_rangeValuesGood hgood (by omega) (by omega))
      (State.apart_of_rangeConflict hfree)
  | clearRange i e ec => exact hs.setRange (fun h => by cases h) fun _ _ _ _ h => by cases h
  | reset t e h =>
    cases h
    refine ⟨fun r hr => ?_, List.pairwise_replicate.2 (.inr fun h => by cases h)⟩
    rw [List.eq_of_mem_replicate hr]
    exact fun h => by cases h
  | setPace _ _ e | releaseLatches e | writeEnables _ _ e | clearFlags _ _ e | setSection _ _ _ e
  | setPacedSection _ _ _ _ _ e | beginSave e | endSave _ e | failSave _ _ e | loadProfile _ _ e | clearLine e =>
    exact hleft (by simp [e]) (by simp [e]) (by simp [e])
  | unload b r hb => rw [unloadBay_of_bay hb]; exact hs.of_ranges_eq rfl
  | _ => exact hs.of_ranges_eq (by simp [takeCase, loadVolume])

/-- Settles O54: only RANGE_SET writes an enabled entry, and it checks values and conflict first. -/
theorem stepsKeepRangesSound : Obligations.StepsKeepRangesSound := by
  unfold Obligations.StepsKeepRangesSound
  intro s t hs hwell h
  unfold step at h
  split at h
  · cases h; exact hs.of_ranges_eq rfl
  · next i rest hpending =>
    exact exec_keeps (P := State.RangesSound)
      (fun u v hu h => hu.of_ranges_eq ((h.owned (c := .answerRead 0)).ranges (by simp) (by simp)))
      (fun u v hu h => h.rangesSound (hwell i (by simp [hpending])) hu) h (hs.of_ranges_eq rfl)

end Sys2Proof.Machine

/-! SUPPORT. The sections of the profile (section 10.3, R186, R187): what is acceptable, what is stored, and what is
loaded. -/

namespace Sys2Proof.Machine

variable {c : Instr} {s t : State}

/-! ### Fields in their ranges -/

/-- Section 10.3: every value is in the range of its field. -/
def inRanges (specs : List FieldSpec) (vals : List Nat) : Bool := (specs.zip vals).all fun p => p.1.inRange p.2

@[simp] theorem inRanges_nil (vals : List Nat) : inRanges [] vals = true := by simp [inRanges]

@[simp] theorem inRanges_cons (sp : FieldSpec) (specs : List FieldSpec) (v : Nat) (vals : List Nat) :
    inRanges (sp :: specs) (v :: vals) = (sp.inRange v && inRanges specs vals) := by simp [inRanges]

theorem inRanges_append {xs : List FieldSpec} {us : List Nat} (ys : List FieldSpec) (vs : List Nat)
    (h : us.length = xs.length) : inRanges (xs ++ ys) (us ++ vs) = (inRanges xs us && inRanges ys vs) := by
  simp [inRanges, List.zip_append h.symm]

/-- Fields that share one range. -/
theorem inRanges_eq_all {specs : List FieldSpec} {vals : List Nat} (p : Nat → Bool) (h : ∀ sp ∈ specs, sp.inRange = p)
    (hlen : vals.length = specs.length) : inRanges specs vals = vals.all p := by
  induction specs generalizing vals with
  | nil => simp [List.length_eq_zero_iff.1 hlen]
  | cons sp specs ih =>
    cases vals with
    | nil => simp at hlen
    | cons v vals =>
      rw [inRanges_cons, List.all_cons, h sp (by simp), ih (fun sp hsp => h sp (by simp [hsp])) (by simpa using hlen)]

/-! ### Jaw ranges -/

/-- The values of the jaw groups, minimum and maximum of each. -/
def jawValues (rs : List JawRange) : List Nat := rs.flatMap fun r => [r.least, r.greatest]

theorem jawValues_jawsOfValues : ∀ vals : List Nat, vals.length % 2 = 0 → jawValues (jawsOfValues vals) = vals
  | [], _ => rfl
  | [_], h => by simp at h
  | a :: b :: rest, h => by
    have ih := jawValues_jawsOfValues rest (by simp only [List.length_cons] at h; omega)
    simpa [jawsOfValues, jawValues] using ih

theorem jawsOfValues_jawValues (rs : List JawRange) : jawsOfValues (jawValues rs) = rs := by
  induction rs with
  | nil => rfl
  | cons r rs ih => simpa [jawValues, jawsOfValues] using ih

theorem length_jawValues (rs : List JawRange) : (jawValues rs).length = 2 * rs.length := by
  simp [jawValues, Nat.mul_comm]

theorem length_jawsOfValues {vals : List Nat} (h : vals.length % 2 = 0) :
    2 * (jawsOfValues vals).length = vals.length := by
  rw [← length_jawValues, jawValues_jawsOfValues vals h]

/-! ### Sections -/

theorem roleCode_roleOfByte {n : Nat} (h : n ≤ 5) : roleCode (roleOfByte n) = n := by
  interval_cases n <;> rfl

theorem roleOfByte_roleCode (r : Role) : roleOfByte (roleCode r) = r := by cases r <;> rfl

theorem groupCode_groupOfByte {n : Nat} (h : n ≤ 4) : groupCode (groupOfByte n) = n := by
  interval_cases n <;> rfl

theorem groupOfByte_groupCode (g : Option JawGroup) : groupOfByte (groupCode g) = g := by
  cases g with
  | none => rfl
  | some g => cases g <;> rfl

/-- Section 10.3: five roles, each in its range, none on two lines. -/
theorem sectionAcceptable_zero {vals : List Nat} (hlen : vals.length = 5) :
    sectionAcceptable 0 vals = true ↔ (∀ v ∈ vals, v ≤ 5) ∧ rolesDistinct vals = true := by
  have hall := inRanges_eq_all (specs := roleSpecs) (vals := vals) (fun n => decide (n ≤ 5))
    (fun sp hsp => by fin_cases hsp <;> simp [interval]) hlen
  unfold inRanges at hall
  simp [sectionAcceptable, sectionSpecs, hall]

/-- Section 10.3: sixteen assignments, four pairs of limits in order, two times. -/
theorem sectionAcceptable_one {as js ts : List Nat} (has : as.length = 16) (hjs : js.length = 8)
    (hts : ts.length = 2) : sectionAcceptable 1 (as ++ js ++ ts) = true ↔
      (∀ a ∈ as, a ≤ 4) ∧ (∀ j ∈ js, 10 ≤ j ∧ j ≤ 1200) ∧ (∀ t ∈ ts, 5 ≤ t ∧ t ≤ 300) ∧ jawsOrdered js = true := by
  have hassignments : inRanges assignmentSpecs as = as.all fun n => decide (n ≤ 4) := by
    refine inRanges_eq_all _ (fun sp hsp => ?_) (by simp [has, assignmentSpecs])
    simp only [assignmentSpecs, List.mem_append, List.mem_replicate] at hsp
    obtain ((⟨-, rfl⟩ | ⟨-, rfl⟩) | ⟨-, rfl⟩) | ⟨-, rfl⟩ := hsp <;> simp [interval]
  have hlimits : inRanges jawSpecs js = js.all fun n => decide (10 ≤ n) && decide (n ≤ 1200) :=
    inRanges_eq_all _ (fun sp hsp => by fin_cases hsp <;> rfl) (by simp [hjs, jawSpecs])
  have htimes : inRanges pressTimeSpecs ts = ts.all fun n => decide (5 ≤ n) && decide (n ≤ 300) :=
    inRanges_eq_all _ (fun sp hsp => by fin_cases hsp <;> rfl) (by simp [hts, pressTimeSpecs])
  have hspecs : inRanges (sectionSpecs 1) (as ++ js ++ ts)
      = (inRanges assignmentSpecs as && inRanges jawSpecs js && inRanges pressTimeSpecs ts) := by
    rw [show sectionSpecs 1 = assignmentSpecs ++ jawSpecs ++ pressTimeSpecs from rfl,
      inRanges_append _ _ (by simp [has, hjs, assignmentSpecs, jawSpecs]),
      inRanges_append _ _ (by simp [has, assignmentSpecs])]
  rw [hassignments, hlimits, htimes] at hspecs
  have hjaws : ((as ++ js ++ ts).drop 16).take 8 = js := by
    rw [List.append_assoc, List.drop_left' has, List.take_left' hjs]
  unfold inRanges at hspecs
  simp only [sectionAcceptable, hspecs, hjaws]
  simp [and_assoc]

theorem sectionAcceptable_two (a b c d : Nat) : sectionAcceptable 2 [a, b, c, d] = true ↔
    a ≤ 7 ∧ b ≤ 3 ∧ (50 ≤ c ∧ c ≤ 1000) ∧ 1 ≤ d ∧ d ≤ 255 := by
  simp [sectionAcceptable, sectionSpecs, matchingSpecs, interval, and_assoc]

theorem sectionAcceptable_three (a b c d e f g h : Nat) : sectionAcceptable 3 [a, b, c, d, e, f, g, h] = true ↔
    (5 ≤ a ∧ a ≤ 600) ∧ (5 ≤ b ∧ b ≤ 600) ∧ c ≤ 1 ∧ d ∈ [4, 8, 16, 32] ∧ e ∈ [1, 2, 4, 8] ∧ f ≤ 1 ∧ g ≤ 8
      ∧ 32 ≤ h ∧ h ≤ 64 := by
  simp [sectionAcceptable, sectionSpecs, paceSpecs, interval, oneOf, and_assoc]

/-- Section 10.3: a section of 26 values in its three parts. -/
theorem bankValues_split {vals : List Nat} (h : vals.length = 26) :
    ∃ as js ts, vals = as ++ js ++ ts ∧ as.length = 16 ∧ js.length = 8 ∧ ts.length = 2 := by
  refine ⟨vals.take 16, (vals.drop 16).take 8, vals.drop 24, ?_, by simp [h], by simp [h], by simp [h]⟩
  rw [List.append_assoc, show vals.drop 24 = (vals.drop 16).drop 8 by simp, List.take_append_drop,
    List.take_append_drop]

theorem map_eq_self {α : Type} {f : α → α} {l : List α} (h : ∀ a ∈ l, f a = a) : l.map f = l := by
  conv_rhs => rw [← List.map_id l]
  exact List.map_congr_left h

/-- R187: an accepted section is stored whole. -/
theorem sectionValues_withSection (p : Profile) {n : Nat} {vals : List Nat} (hn : n ≤ 3)
    (hlen : vals.length = (sectionWidths n).length) (hgood : sectionAcceptable n vals = true) :
    sectionValues (withSection p n vals) n = vals := by
  match n with
  | 0 =>
    obtain ⟨hrange, -⟩ := (sectionAcceptable_zero hlen).1 hgood
    simp only [withSection, sectionValues, List.map_map]
    exact map_eq_self fun v hv => roleCode_roleOfByte (hrange v hv)
  | 1 =>
    obtain ⟨as, js, ts, rfl, has, hjs, hts⟩ := bankValues_split hlen
    obtain ⟨hrange, -, -, -⟩ := (sectionAcceptable_one has hjs hts).1 hgood
    obtain ⟨a, b, rfl⟩ := List.length_eq_two.1 hts
    have htake : (as ++ js ++ [a, b]).take 16 = as := by rw [List.append_assoc, List.take_left' has]
    have hjaws : ((as ++ js ++ [a, b]).drop 16).take 8 = js := by
      rw [List.append_assoc, List.drop_left' has, List.take_left' hjs]
    have hassign : (as.map groupOfByte).map groupCode = as := by
      rw [List.map_map]
      exact map_eq_self fun v hv => groupCode_groupOfByte (hrange v hv)
    have hvalues : (jawsOfValues js).flatMap (fun r => [r.least, r.greatest]) = js :=
      jawValues_jawsOfValues js (by omega)
    simp only [withSection, sectionValues, htake, hjaws, hassign, hvalues]
    simp [has, hjs]
  | 2 =>
    match vals, hlen with
    | [a, b, c, d], _ => rfl
  | 3 =>
    match vals, hlen with
    | [a, b, c, d, e, f, g, h], _ =>
      obtain ⟨-, -, hc, -, -, hf, -⟩ := (sectionAcceptable_three ..).1 hgood
      have hbit (n : Nat) (hn : n ≤ 1) : (n == 1).toNat = n := by interval_cases n <;> rfl
      simp [withSection, sectionValues, hbit c hc, hbit f hf]

/-- R187: a section that is stored leaves the others. -/
theorem sectionValues_withSection_ne (p : Profile) {m n : Nat} (vals : List Nat) (h : m ≠ n) :
    sectionValues (withSection p n vals) m = sectionValues p m := by
  unfold withSection
  split <;> unfold sectionValues <;> split <;> first | rfl | exact absurd rfl h

theorem Profile.Legal.storeSection {p : Profile} (h : p.Legal) {n : Nat} {vals : List Nat} (hn : n ≤ 3)
    (hlen : vals.length = (sectionWidths n).length) (hgood : sectionAcceptable n vals = true) :
    (withSection p n vals).Legal := by
  have hfields : ∀ m ≤ 3, sectionAcceptable m (sectionValues (withSection p n vals) m) = true := by
    intro m hm
    by_cases e : m = n
    · subst e
      rwa [sectionValues_withSection p hn hlen hgood]
    · rw [sectionValues_withSection_ne p vals e]
      exact h.fields m hm
  match n, hlen with
  | 0, hlen => exact ⟨by simpa [Machine.withSection] using (show vals.length = 5 from hlen), h.assignment, h.jaws, hfields⟩
  | 1, hlen =>
    have hlen : vals.length = 26 := hlen
    have hjaws := length_jawsOfValues (vals := (vals.drop 16).take 8) (by simp [hlen])
    refine ⟨h.roles, by simp [withSection, hlen], ?_, hfields⟩
    simp [hlen] at hjaws
    simp only [withSection]
    omega
  | 2, _ => exact ⟨h.roles, h.assignment, h.jaws, hfields⟩
  | 3, _ => exact ⟨h.roles, h.assignment, h.jaws, hfields⟩

end Sys2Proof.Machine

/-! SUPPORT. The load of the profile (R186): whatever the store holds, what is loaded is legal. -/

namespace Sys2Proof.Machine

variable {c : Instr} {s t : State}

theorem inRange_loadField {sp : FieldSpec} (h : sp.inRange sp.dflt = true) (v : Nat) :
    sp.inRange (loadField sp v).1 = true := by
  unfold loadField
  split
  · assumption
  · exact h

theorem length_loadFields (specs : List FieldSpec) (vals : List Nat) (h : vals.length = specs.length) :
    (loadFields specs vals).length = specs.length := by simp [loadFields, h]

theorem inRanges_loadFields {specs : List FieldSpec} (h : ∀ sp ∈ specs, sp.inRange sp.dflt = true) (vals : List Nat) :
    inRanges specs ((loadFields specs vals).map Prod.fst) = true := by
  induction specs generalizing vals with
  | nil => simp
  | cons sp specs ih =>
    cases vals with
    | nil => simp [loadFields, inRanges]
    | cons v vals =>
      rw [loadFields, List.zipWith_cons_cons, List.map_cons, inRanges_cons, inRange_loadField (h sp (by simp)),
        Bool.true_and]
      exact ih (fun sp hsp => h sp (by simp [hsp])) vals

/-- The pairs of fields whose defaults are in range and in order. -/
def pairsSound : List FieldSpec → Bool
  | sa :: sb :: specs => sa.inRange sa.dflt && sb.inRange sb.dflt && decide (sa.dflt ≤ sb.dflt) && pairsSound specs
  | _ => true

/-- R186: each group is loaded in its ranges and in order. -/
theorem loadJaws_sound : ∀ (specs : List FieldSpec) (vals : List Nat), vals.length = specs.length →
    specs.length % 2 = 0 → pairsSound specs = true →
      (loadJaws specs vals).length = specs.length
        ∧ inRanges specs ((loadJaws specs vals).map Prod.fst) = true
        ∧ jawsOrdered ((loadJaws specs vals).map Prod.fst) = true
  | [], [], _, _, _ => ⟨rfl, rfl, rfl⟩
  | [], _ :: _, h, _, _ => by simp at h
  | [_], _, _, h, _ => by simp at h
  | _ :: _ :: _, [], h, _, _ => by simp at h
  | _ :: _ :: _, [_], h, _, _ => by simp at h
  | sa :: sb :: specs, a :: b :: vals, hlen, heven, hsound => by
    simp only [pairsSound, Bool.and_eq_true, decide_eq_true_eq] at hsound
    obtain ⟨⟨⟨ha, hb⟩, horder⟩, hrest⟩ := hsound
    obtain ⟨ihlen, ihrange, ihorder⟩ := loadJaws_sound specs vals (by simpa using hlen)
      (by simp only [List.length_cons] at heven; omega) hrest
    unfold loadJaws
    split
    · simp [ihlen, ihrange, ihorder, ha, hb, jawsOrdered, horder]
    · next hord =>
      simp only [Bool.or_eq_true, decide_eq_true_eq, not_or, not_lt] at hord
      simp [ihlen, ihrange, ihorder, inRange_loadField ha, inRange_loadField hb, jawsOrdered, hord.2]

/-- R186: the roles are loaded in their ranges, none on two lines. -/
theorem loadRoles_sound {vals : List Nat} (h : vals.length = 5) :
    (loadRoles vals).length = 5 ∧ sectionAcceptable 0 ((loadRoles vals).map Prod.fst) = true := by
  have hdflt : ∀ sp ∈ roleSpecs, sp.inRange sp.dflt = true := by decide
  unfold loadRoles
  dsimp only
  split
  · next hdistinct =>
    have hrange := inRanges_loadFields hdflt vals
    unfold inRanges at hrange
    exact ⟨length_loadFields _ _ h, by simp [sectionAcceptable, sectionSpecs, hrange, hdistinct]⟩
  · exact ⟨rfl, by decide⟩

/-- R186: a section is loaded whole and acceptable, whatever values are stored. -/
theorem loadSection_sound {n : Nat} {vals : List Nat} (hn : n ≤ 3) (hlen : vals.length = (sectionWidths n).length) :
    (loadSection n vals).length = (sectionWidths n).length
      ∧ sectionAcceptable n ((loadSection n vals).map Prod.fst) = true := by
  match n with
  | 0 => exact loadRoles_sound hlen
  | 1 =>
    obtain ⟨as, js, ts, rfl, has, hjs, hts⟩ := bankValues_split hlen
    have htake : (as ++ js ++ ts).take 16 = as := by rw [List.append_assoc, List.take_left' has]
    have hjaws : ((as ++ js ++ ts).drop 16).take 8 = js := by
      rw [List.append_assoc, List.drop_left' has, List.take_left' hjs]
    have hdrop : (as ++ js ++ ts).drop 24 = ts := List.drop_left' (by simp [has, hjs])
    have ha := inRanges_loadFields (specs := assignmentSpecs) (by decide) as
    have ht := inRanges_loadFields (specs := pressTimeSpecs) (by decide) ts
    have halen := length_loadFields assignmentSpecs as has
    have htlen := length_loadFields pressTimeSpecs ts hts
    obtain ⟨hjlen, hj, hjorder⟩ := loadJaws_sound jawSpecs js hjs rfl rfl
    have hsplit : loadSection 1 (as ++ js ++ ts)
        = loadFields assignmentSpecs as ++ loadJaws jawSpecs js ++ loadFields pressTimeSpecs ts := by
      simp only [loadSection, htake, hjaws, hdrop]
    have hranges : inRanges (sectionSpecs 1) ((loadSection 1 (as ++ js ++ ts)).map Prod.fst) = true := by
      rw [hsplit, List.map_append, List.map_append,
        show sectionSpecs 1 = assignmentSpecs ++ jawSpecs ++ pressTimeSpecs from rfl,
        inRanges_append _ _ (by simp [halen, hjlen]), inRanges_append _ _ (by simp [halen]), ha, hj, ht]
      rfl
    have hgroups : ((loadSection 1 (as ++ js ++ ts)).map Prod.fst |>.drop 16).take 8
        = (loadJaws jawSpecs js).map Prod.fst := by
      rw [hsplit, List.map_append, List.map_append, List.append_assoc, List.drop_left' (by simp [halen]; rfl),
        List.take_left' (by simp [hjlen]; rfl)]
    unfold inRanges at hranges
    refine ⟨by rw [hsplit]; simp [halen, hjlen, htlen]; rfl, ?_⟩
    simp only [sectionAcceptable, hranges, hgroups, hjorder, Bool.true_and]
  | 2 =>
    have h := inRanges_loadFields (specs := matchingSpecs) (by decide) vals
    exact ⟨length_loadFields matchingSpecs vals hlen, (Bool.and_true _).trans h⟩
  | 3 =>
    have h := inRanges_loadFields (specs := paceSpecs) (by decide) vals
    exact ⟨length_loadFields paceSpecs vals hlen, (Bool.and_true _).trans h⟩

theorem default_isLegal : Profile.default.Legal := ⟨rfl, rfl, rfl, by decide⟩

/-- R186: the fields of a section of the copy, loaded. -/
theorem loadFromCopy_sound (copy : List Byte) {n : Nat} (hn : n ≤ 3) :
    (loadFromCopy copy n).length = (sectionWidths n).length
      ∧ sectionAcceptable n ((loadFromCopy copy n).map Prod.fst) = true :=
  loadSection_sound hn (readFields_length ..)

/-- R186: whatever bytes the copy holds, the profile loaded from it is legal. -/
theorem profileFromCopy_legal (copy : List Byte) : (profileFromCopy copy).Legal := by
  have hstep {p : Profile} {n : Nat} (hn : n ≤ 3) (hp : p.Legal) :
      (withSection p n ((loadFromCopy copy n).map Prod.fst)).Legal :=
    let ⟨hlen, hgood⟩ := loadFromCopy_sound copy hn
    hp.storeSection hn (by simpa using hlen) hgood
  exact hstep le_rfl (hstep (n := 2) (by decide) (hstep (n := 1) (by decide) (hstep (n := 0) (by decide) default_isLegal)))

theorem loadProfile_legal (store : Store) (a : Bool) : (loadProfile store a).1.Legal := by
  unfold loadProfile
  split
  · exact default_isLegal
  · split
    · exact profileFromCopy_legal _
    · exact default_isLegal

/-! ### Every step -/

theorem Change.profile_legal (h : Change c s t) (hs : s.profile.Legal) : t.profile.Legal := by
  by_cases howner : c = .deviceReset ∨ (∃ n fields, c = .profileSet n fields) ∨ ∃ a, c = .profileLoad a
  · cases h with
    | setSection n fields vals e hn hlen hgood => exact hs.storeSection (by omega) hlen hgood
    | setPacedSection n fields vals g was e hn hlen hgood =>
      simpa using hs.storeSection (n := n) (by omega) hlen hgood
    | loadProfile a t e h =>
      obtain rfl | ⟨-, g, n, o, k, -, -, -, -, rfl⟩ := execProfileLoad_cases h
      · exact hs
      · simpa using loadProfile_legal s.store a
    | reset t e h => cases h; exact hs
    | endSave t e | failSave n t e => simp [e] at howner
    | unload b r hb => rw [unloadBay_of_bay hb]; exact hs
    | _ => simpa [takeCase, loadVolume, State.clearLine] using hs
  · push Not at howner
    obtain ⟨hreset, hset, hload⟩ := howner
    rw [(h.owned hreset).profile hset hload]
    exact hs

/-- R188: while a save is WRITING the marker is invalid, and every end of a save leaves it idle. -/
theorem Change.saveGuarded (h : Change c s t) (hs : s.SaveGuarded) : t.SaveGuarded := by
  unfold State.SaveGuarded at hs ⊢
  cases h with
  | beginSave => intro _; simp [invalidMarker]
  | endSave t e h =>
    obtain ⟨-, e⟩ | ⟨m, -, e⟩ := execProfileSaveDone_cases s <;> rw [e] at h <;> cases h
    · exact hs
    · intro h; cases h
  | failSave n t e h =>
    obtain ⟨-, e⟩ | ⟨m, -, e⟩ := execProfileSaveFailed_cases s n <;> rw [e] at h <;> cases h
    · exact hs
    · intro h; cases h
  | loadProfile a t e h =>
    obtain rfl | ⟨-, g, n, o, k, -, -, -, -, rfl⟩ := execProfileLoad_cases h
    · exact hs
    · intro h; simp at h; cases h
  | reset t e h => cases h; intro h; cases h
  | unload b r hb => rw [unloadBay_of_bay hb]; exact hs
  | _ => simpa [takeCase, loadVolume, State.clearLine] using hs

theorem State.Admits.profileStatus {u : State} (h : s.Admits u) : u.profileStatus = s.profileStatus := by
  obtain ⟨w, -, ⟨t, -, -, rfl⟩ | ⟨-, -, rfl⟩⟩ := h.cases <;> simp

/-- Settles O58: sections are stored only when acceptable, loads are judged, and a save begins by its marker. -/
theorem stepsKeepProfileLegal : Obligations.StepsKeepProfileLegal := by
  unfold Obligations.StepsKeepProfileLegal
  refine ⟨fun s t hs h => step_keeps (P := fun s => s.profile.Legal) (fun s u hs h => ?_)
      (fun _ _ _ hs h => h.profile_legal hs) (fun _ hs => hs) (fun _ _ hs => hs) h hs,
    fun s t hs h => step_keeps (P := State.SaveGuarded) (fun s u hs h => ?_)
      (fun _ _ _ hs h => h.saveGuarded hs) (fun _ hs => hs) (fun _ _ hs => hs) h hs⟩
  · rwa [(h.owned (c := .answerRead 0)).profile (by simp) (by simp)]
  · unfold State.SaveGuarded
    rwa [(h.owned (c := .answerRead 0)).store (by simp) (by simp) (by simp), h.profileStatus]

end Sys2Proof.Machine

/-! SUPPORT. The effective pace over every step (R147, R160). -/

namespace Sys2Proof.Machine

variable {c : Instr} {s t u : State}

/-- R106: a bay replaced by one that counts as it did. -/
theorem length_filter_zip_set {p : Bay × Option JawGroup → Bool} {r r' : Bay} (h : ∀ a, p (r', a) = p (r, a)) :
    ∀ (bays : List Bay) (as : List (Option JawGroup)) (b : Nat), bays[b]? = some r →
      (((bays.set b r').zip as).filter p).length = ((bays.zip as).filter p).length
  | [], _, _, hb => by simp at hb
  | _ :: _, [], _, _ => by simp
  | x :: bays, a :: as, 0, hb => by
    obtain rfl : x = r := by simpa using hb
    simp [List.filter_cons, h a]
    split <;> simp
  | x :: bays, a :: as, b + 1, hb => by
    have ih := length_filter_zip_set h bays as b (by simpa using hb)
    simp only [List.set_cons_succ, List.zip_cons_cons, List.filter_cons]
    split <;> simp [ih]

/-- R106: the vacant count moves only with a bay that comes to VACANT or leaves it. -/
theorem State.vacantCount_setBay {b : Nat} {r r' : Bay} (hb : s.bays[b]? = some r)
    (h : (r'.state == .vacant) = (r.state == .vacant)) : (s.setBay b r').vacantCount = s.vacantCount :=
  length_filter_zip_set (fun a => by simp [h]) s.bays s.profile.assignment b hb

theorem State.vacantCount_congr (hbays : t.bays = s.bays) (hprofile : t.profile.assignment = s.profile.assignment) :
    t.vacantCount = s.vacantCount := by unfold State.vacantCount; rw [hbays, hprofile]

/-- R147: what the lowest pace is read from. -/
theorem State.lowestPace_congr (hgovernor : t.governor = { s.governor with effective := t.governor.effective })
    (hcycling : t.profile.cycling = s.profile.cycling) (hlow : t.profile.lowWater = s.profile.lowWater)
    (hhigh : t.profile.highWater = s.profile.highWater) (hvacant : t.vacantCount = s.vacantCount)
    (hfill : t.volumes.length = s.volumes.length) : t.lowestPace = s.lowestPace := by
  have hstands : t.ceilingStands = s.ceilingStands := by
    funext k
    unfold State.ceilingStands State.fill
    rw [hgovernor, hcycling, hlow, hhigh, hvacant, hfill]
  unfold State.lowestPace
  rw [hstands, hgovernor]

@[simp] theorem State.lowestPace_repace : s.repace.lowestPace = s.lowestPace :=
  State.lowestPace_congr (by simp [State.repace_governor]) (by simp) (by simp) (by simp)
    (State.vacantCount_congr (by simp) (by simp)) (by simp)

/-- R147: a lowest pace of a stopped request is STOP. -/
theorem State.lowestPace_of_stop (h : s.governor.requested = .stop) : s.lowestPace = .stop := by
  have hfold : ∀ ps : List Pace, ps.foldl lowerPace .stop = .stop := by
    intro ps
    induction ps with
    | nil => rfl
    | cons p ps ih =>
      have : lowerPace .stop p = .stop := by cases p <;> rfl
      rw [List.foldl_cons, this, ih]
  have hstart : lowerPace s.governor.requested s.governor.stepDown = .stop := by
    rw [h]; cases s.governor.stepDown <;> rfl
  unfold State.lowestPace
  rw [hstart, hfold]

/-- R147, R160: a change of anything the pace is not read from. -/
theorem State.PaceSettled.of_eq (h : s.PaceSettled) (hphase : t.phase = s.phase) (hgovernor : t.governor = s.governor)
    (hcycling : t.profile.cycling = s.profile.cycling) (hlow : t.profile.lowWater = s.profile.lowWater)
    (hhigh : t.profile.highWater = s.profile.highWater) (hvacant : t.vacantCount = s.vacantCount)
    (hfill : t.volumes.length = s.volumes.length) : t.PaceSettled where
  lowest := by
    rw [State.lowestPace_congr (by rw [hgovernor]) hcycling hlow hhigh hvacant hfill, hgovernor]
    exact h.lowest
  loading hloading := by rw [hgovernor]; exact h.loading (hphase ▸ hloading)

/-- R147: the pace computed anew is settled. -/
theorem State.PaceSettled.of_repace (h : t.phase = .loading → t.governor.requested = .stop) :
    t.repace.PaceSettled where
  lowest := by rw [State.lowestPace_repace, State.repace_governor]
  loading hphase := by
    rw [State.repace_governor]
    exact h (by simpa using hphase)

theorem State.updBayVolume_length (r : Bay) (f : Volume → Volume) :
    (s.updBayVolume r f).volumes.length = s.volumes.length := by
  unfold State.updBayVolume
  split <;> simp

theorem State.Admits.paceSettled (h : s.Admits u) (hs : s.PaceSettled) : u.PaceSettled := by
  have hown := h.owned (c := .answerRead 0)
  obtain ⟨w, -, ⟨t, -, -, rfl⟩ | ⟨-, -, rfl⟩⟩ := h.cases <;>
  · refine .of_repace fun hphase => ?_
    have hreq := hown.requested (by simp)
    rw [State.repace_governor] at hreq
    exact hreq.trans (hs.loading (by simpa using hphase))

theorem Change.paceSettled (h : Change c s t) (hs : s.PaceSettled) : t.PaceSettled := by
  have hvacant (x : State) (hb : x.bays = s.bays) (hp : x.profile = s.profile) : x.vacantCount = s.vacantCount :=
    State.vacantCount_congr hb (by rw [hp])
  cases h with
  | ports | post | unpost | seeCase | jackets | annotate | marry | cased | finish | pass | dropTitles | retitle
  | touch | setRange | clearRange | writeEnables | clearFlags | beginSave | raise | clock =>
    exact hs.of_eq (by simp [takeCase]) (by simp [takeCase]) (by simp [takeCase]) (by simp [takeCase])
      (by simp [takeCase]) (hvacant _ (by simp [takeCase]) (by simp [takeCase])) (by simp [takeCase])
  | miss v =>
    exact hs.of_eq (by simp) (by simp) (by simp) (by simp) (by simp) (hvacant _ (by simp) (by simp))
      (by simp [State.goMissing_volumes])
  | storeTitle slot code g p victim =>
    obtain ⟨f, hvol, -⟩ := s.storeTitle_volumes (newTitle slot code g p) victim
    exact hs.of_eq (by simp) (by simp) (by simp) (by simp) (by simp) (hvacant _ (by simp) (by simp)) (by simp [hvol])
  | remove k v =>
    obtain ⟨-, e⟩ | ⟨-, e⟩ := s.removeVolume_cases k v <;> rw [e] <;> refine .of_repace fun hphase => ?_
    · simpa using hs.loading (by simpa using hphase)
    · simpa using hs.loading (by simpa using hphase)
  | unload b r hb hr =>
    rw [unloadBay_of_bay hb]
    exact hs.of_eq rfl rfl rfl rfl rfl (State.vacantCount_setBay hb (by simp [hr])) (by simp)
  | load v b r => exact .of_repace hs.loading
  | stage b r r' f hb hr hr' hvol hf =>
    have hstate {x : BayState} (hx : x.isOccupied = true) : (x == .vacant) = false := by
      cases x <;> simp_all [BayState.isOccupied]
    refine hs.of_eq (by simp) (by simp) (by simp) (by simp) (by simp) ?_ (by simp [State.updBayVolume_length])
    rw [← State.vacantCount_setBay (r' := r') hb (by rw [hstate hr, hstate hr'])]
    exact State.vacantCount_congr (by simp) (by simp)
  | empty b r was => exact .of_repace fun hphase => by simpa using hs.loading (by simpa using hphase)
  | reject b r was hb hr =>
    refine hs.of_eq (by simp) (by simp) (by simp) (by simp) (by simp) ?_ (by simp [State.updBayVolume_length])
    rw [← State.vacantCount_setBay (r' := Bay.unoccupied .faulted none) hb (by rw [hr]; rfl)]
    exact State.vacantCount_congr (by simp) (by simp)
  | idleBay b r r' was => exact .of_repace fun hphase => by simpa using hs.loading (by simpa using hphase)
  | repace => exact .of_repace hs.loading
  | govern g was hreq => exact .of_repace fun hphase => by simpa [hreq] using hs.loading (by simpa using hphase)
  | levels l hphase =>
    have hreq := hs.loading hphase
    refine ⟨?_, fun _ => hreq⟩
    rw [State.lowestPace_of_stop (s := { s with governor := { s.governor with lines := l } }) hreq]
    exact hs.lowest.trans (State.lowestPace_of_stop hreq)
  | setPace n p hc hphase => exact .of_repace fun h => absurd (by simpa using h) hphase
  | releaseLatches => exact .of_repace fun hphase => by simpa using hs.loading (by simpa using hphase)
  | setSection n fields vals e hn =>
    obtain rfl | rfl := hn <;> exact hs.of_eq rfl rfl rfl rfl rfl rfl rfl
  | setPacedSection n fields vals g was e hn hlen hgood hreq =>
    exact .of_repace fun hphase => by simpa [hreq] using hs.loading (by simpa using hphase)
  | endSave t e h =>
    obtain ⟨-, e⟩ | ⟨m, -, e⟩ := execProfileSaveDone_cases s <;> rw [e] at h <;> cases h
    · exact hs
    · exact hs.of_eq rfl rfl rfl rfl rfl rfl rfl
  | failSave n t e h =>
    obtain ⟨-, e⟩ | ⟨m, -, e⟩ := execProfileSaveFailed_cases s n <;> rw [e] at h <;> cases h
    · exact hs
    · exact hs.of_eq rfl rfl rfl rfl rfl rfl rfl
  | loadProfile a t e h =>
    obtain rfl | ⟨-, g, n, o, k, -, -, -, -, rfl⟩ := execProfileLoad_cases h
    · exact hs
    · exact .of_repace fun h => by cases h
  | reset t e h =>
    cases h
    exact ⟨(State.lowestPace_of_stop rfl).symm, fun _ => rfl⟩
  | clearLine =>
    obtain ⟨p, hp⟩ := s.clearVolumes_governor
    refine .of_repace fun hphase => ?_
    simpa [State.clearLine, hp] using hs.loading (by simpa [State.clearLine] using hphase)

/-- Settles O57: every change of what the pace is read from ends with the pace computed anew. -/
theorem stepsKeepPaceSettled : Obligations.StepsKeepPaceSettled := by
  unfold Obligations.StepsKeepPaceSettled
  exact fun s t hs h => step_keeps (P := State.PaceSettled) (fun _ _ hs h => h.paceSettled hs)
    (fun _ _ _ hs h => h.paceSettled hs) (fun _ hs => hs.of_eq rfl rfl rfl rfl rfl rfl rfl)
    (fun _ _ hs => hs.of_eq rfl rfl rfl rfl rfl rfl rfl) h hs

end Sys2Proof.Machine

/-! SUPPORT. Case tags over every step (R85). -/

namespace Sys2Proof.Machine

variable {c : Instr} {s t u : State}

/-- R85: the tags of a window's entries that are clear of DOUBLE. -/
def clearTags (w : List WindowEntry) : List Tag := (w.filter fun e => !e.double).map WindowEntry.tag

theorem State.tagsInUse_eq : s.tagsInUse = clearTags s.caseWindow ++ s.volumes.filterMap Volume.caseTag := rfl

theorem clearTags_append (w x : List WindowEntry) : clearTags (w ++ x) = clearTags w ++ clearTags x := by
  simp [clearTags]

theorem clearTags_cons_of_clear {e : WindowEntry} (w : List WindowEntry) (h : e.double = false) :
    clearTags (e :: w) = e.tag :: clearTags w := by simp [clearTags, h]

theorem State.caseTagInUse_iff (tag : Tag) : s.caseTagInUse tag = true ↔ tag ∈ s.tagsInUse := by
  simp [State.caseTagInUse, State.tagsInUse, and_comm, and_left_comm, and_assoc]

theorem filterMap_caseTag_map {f : Volume → Volume} (h : ∀ v : Volume, (f v).caseTag = v.caseTag) (vs : List Volume) :
    (vs.map f).filterMap Volume.caseTag = vs.filterMap Volume.caseTag := by
  rw [List.filterMap_map, show Volume.caseTag ∘ f = Volume.caseTag from funext h]

/-- R89, R91: a TAKE hands the entry's tag to the volume, and the entries ahead of it leave. -/
theorem State.tagsInUse_marry {v : Volume} {k : Nat} {e : WindowEntry}
    (hnodup : (s.volumes.map Volume.number).Nodup) (hv : v ∈ s.volumes) (hentry : s.caseWindow[k]? = some e)
    (hclear : e.double = false) (hvol : t.volumes = s.volumes.map fun w =>
      if w.number = v.number then { w with state := .casing, caseTag := some e.tag } else w)
    (hwindow : t.caseWindow = s.caseWindow.drop (k + 1)) : t.tagsInUse.Subperm s.tagsInUse := by
  obtain ⟨front, back, hsplit⟩ := List.append_of_mem hv
  have hother : ∀ w ∈ front ++ back, w.number ≠ v.number := by
    intro w hw e
    rw [hsplit, (List.perm_middle.map _).nodup_iff, List.map_cons, List.nodup_cons] at hnodup
    exact hnodup.1 (e ▸ List.mem_map_of_mem hw)
  have hkeep {l : List Volume} (hl : ∀ w ∈ l, w.number ≠ v.number) : (l.map fun w =>
      if w.number = v.number then { w with state := .casing, caseTag := some e.tag } else w) = l :=
    map_number_ite_of_ne (n := v.number) _ hl
  have hnew : t.volumes.filterMap Volume.caseTag
      = front.filterMap Volume.caseTag ++ e.tag :: back.filterMap Volume.caseTag := by
    rw [hvol, hsplit, List.map_append, List.map_cons, hkeep fun w hw => hother w (by simp [hw]),
      hkeep fun w hw => hother w (by simp [hw])]
    simp
  obtain ⟨hk, rfl⟩ := List.getElem?_eq_some_iff.1 hentry
  have hold : s.caseWindow = s.caseWindow.take k ++ s.caseWindow[k] :: s.caseWindow.drop (k + 1) := by
    rw [List.getElem_cons_drop, List.take_append_drop]
  have hvolumes : (front.filterMap Volume.caseTag ++ back.filterMap Volume.caseTag).Sublist
      (s.volumes.filterMap Volume.caseTag) := by
    rw [hsplit, List.filterMap_append, ← List.singleton_append, List.filterMap_append]
    exact (List.Sublist.refl _).append (List.sublist_append_right _ _)
  have hperm : t.tagsInUse.Perm (s.caseWindow[k].tag :: (clearTags (s.caseWindow.drop (k + 1))
      ++ (front.filterMap Volume.caseTag ++ back.filterMap Volume.caseTag))) := by
    rw [State.tagsInUse_eq, hwindow, hnew, ← List.append_assoc]
    exact List.perm_middle.trans (by rw [List.append_assoc])
  refine hperm.subperm.trans (List.Sublist.subperm ?_)
  rw [State.tagsInUse_eq]
  conv_rhs => rw [hold, clearTags_append, clearTags_cons_of_clear _ hclear, List.append_assoc, List.cons_append]
  exact (((List.Sublist.refl _).append hvolumes).cons_cons _).trans (List.sublist_append_right _ _)

theorem State.Reworks.tagsDistinct (h : s.Reworks t) (hs : s.TagsDistinct) : t.TagsDistinct := by
  refine ⟨hs.numbersDistinct.sublist h.numbers, ?_⟩
  have hsame (hwindow : t.caseWindow = s.caseWindow)
      (hvol : t.volumes.filterMap Volume.caseTag = s.volumes.filterMap Volume.caseTag) : t.tagsInUse.Nodup := by
    rw [State.tagsInUse_eq, hwindow, hvol]
    exact hs.distinct
  cases h with
  | drop hvol hwindow =>
    refine hs.distinct.sublist ?_
    rw [State.tagsInUse_eq, State.tagsInUse_eq]
    refine List.Sublist.append ?_ (hvol.filterMap _)
    obtain e | e := hwindow <;> simp [e, clearTags]
  | move f hf hvol hwindow =>
    exact hsame hwindow (by rw [hvol, filterMap_caseTag_map fun v => (hf v).caseTag])
  | see tag hvol hroom hwindow =>
    cases huse : s.caseTagInUse tag with
    | true =>
      rw [State.tagsInUse_eq, hwindow, hvol, clearTags_append, huse]
      simpa [clearTags, State.tagsInUse] using hs.distinct
    | false =>
      have hfresh : tag ∉ s.tagsInUse := fun hmem => by simp [(s.caseTagInUse_iff tag).2 hmem] at huse
      rw [State.tagsInUse_eq, hwindow, hvol, clearTags_append, huse, clearTags_cons_of_clear _ rfl,
        List.append_assoc]
      exact List.perm_middle.nodup_iff.2 (List.nodup_cons.2 ⟨hfresh, hs.distinct⟩)
  | marry v k e hv hst hentry hclear hvol hwindow =>
    obtain ⟨l, hperm, hsub⟩ := State.tagsInUse_marry hs.numbersDistinct hv hentry hclear hvol hwindow
    exact hperm.nodup_iff.1 (hs.distinct.sublist hsub)
  | bind w victim ht =>
    obtain ⟨f, hvol, hf⟩ := s.storeTitle_volumes w victim
    refine hsame (by rw [ht, State.storeTitle_caseWindow]) ?_
    rw [ht, hvol, filterMap_caseTag_map fun v => ?_]
    obtain e | ⟨p, x, e⟩ := hf v <;> rw [e]
    rfl

theorem State.Admits.tagsDistinct (h : s.Admits u) (hs : s.TagsDistinct) : u.TagsDistinct := by
  refine ⟨h.numbers_nodup hs.numbersDistinct, ?_⟩
  have hwindow : u.caseWindow = s.caseWindow := by
    obtain ⟨w, -, ⟨t, -, -, rfl⟩ | ⟨-, -, rfl⟩⟩ := h.cases <;> simp
  obtain ⟨w, x, hw, hvol, hx⟩ := h.volumes
  have htag : x.caseTag = none := by obtain rfl | ⟨p, t, rfl⟩ := hx <;> exact hw.caseTag
  rw [State.tagsInUse_eq, hwindow, hvol, List.filterMap_append]
  simpa [htag, State.tagsInUse_eq] using hs.distinct

/-- Settles O56: a tag comes into use by a CASE_SEEN that finds it free, and a TAKE only hands it over. -/
theorem stepsKeepTagsDistinct : Obligations.StepsKeepTagsDistinct := by
  unfold Obligations.StepsKeepTagsDistinct
  exact fun s t hs h => step_keeps (P := State.TagsDistinct) (fun _ _ hs h => h.tagsDistinct hs)
    (fun _ _ _ hs h => h.reworks.tagsDistinct hs) (fun _ hs => ⟨hs.1, hs.2⟩) (fun _ _ hs => ⟨hs.1, hs.2⟩) h hs

end Sys2Proof.Machine

/-! SUPPORT. The sizes of the tables, and the slots and codes of the titles, over every step (R1, R21, R25, R37, R83,
R103, R135, R168). -/

namespace Sys2Proof.Machine

variable {c : Instr} {s t u : State}

/-! ### Lists of a fixed or bounded length -/

/-- The lists beside the titles, the volumes and the case window are as long as their chapters say. -/
structure State.ListsBounded (s : State) : Prop where
  missList : s.missList.length ≤ 8
  ranges : s.ranges.length = 32
  jacketWindow : s.jacketWindow.length ≤ 4
  bays : s.bays.length = 16
  reports : s.reports.length ≤ 32
  stations : s.stations.length = 5

theorem State.removeVolume_missList_sublist (k : Removal) (v : Volume) :
    (s.removeVolume k v).missList.Sublist s.missList := by
  obtain ⟨-, e⟩ | ⟨-, e⟩ := s.removeVolume_cases k v <;> rw [e]
  · simp
  · simp only [State.repace_missList, State.settleMiss]
    split
    · exact List.filter_sublist
    · exact .refl _

theorem State.storeTitle_missList_sublist (w : Title) (victim : Option Nat) :
    (s.storeTitle w victim).missList.Sublist s.missList := by
  rw [State.storeTitle_eq]
  refine State.foldl_bind_induction (P := fun x => x.missList.Sublist s.missList) (fun x n hx => by simpa using hx) _ ?_
  unfold State.stored State.evict
  split <;> exact List.filter_sublist

/-- R168: what one report leaves of the queue, and every other change. -/
theorem Change.listsBounded (h : Change c s t) (hs : s.ListsBounded) : t.ListsBounded := by
  have hlists {x : State} (hmiss : x.missList.Sublist s.missList) (hranges : x.ranges.length = s.ranges.length)
      (hjackets : x.jacketWindow = s.jacketWindow) (hbays : x.bays.length = s.bays.length)
      (hreports : x.reports = s.reports) (hstations : x.stations.length = s.stations.length) : x.ListsBounded :=
    ⟨hmiss.length_le.trans hs.missList, hranges.trans hs.ranges, hjackets ▸ hs.jacketWindow, hbays.trans hs.bays,
      hreports ▸ hs.reports, hstations.trans hs.stations⟩
  cases h with
  | ports st sp hlen => exact hlists (.refl _) rfl rfl rfl rfl hlen
  | raise | clock | seeCase | annotate | marry | cased | finish | miss | pass | load | stage | empty | reject | idleBay
  | repace | govern | levels | setPace | releaseLatches | dropTitles | retitle | touch | setRange | clearRange
  | writeEnables | clearFlags | setSection | setPacedSection | beginSave =>
    exact hlists (by simp [takeCase, loadVolume]) (by simp [takeCase, loadVolume]) (by simp [takeCase, loadVolume])
      (by simp [takeCase, loadVolume]) (by simp [takeCase, loadVolume]) (by simp [takeCase, loadVolume])
  | post p hroom => exact { hs with reports := by simpa using hroom }
  | unpost p rest hhead =>
    have := hs.reports
    rw [hhead, List.length_cons] at this
    exact { hs with reports := (Nat.le_succ _).trans this }
  | jackets w hroom => exact { hs with jacketWindow := hroom.elim id (·.trans hs.jacketWindow) }
  | remove k v =>
    exact hlists (State.removeVolume_missList_sublist k v) (by simp) (by simp) (by simp) (by simp) (by simp)
  | unload b r hb => rw [unloadBay_of_bay hb]; exact hlists (.refl _) rfl rfl (by simp) rfl rfl
  | storeTitle slot code g p victim =>
    exact hlists (State.storeTitle_missList_sublist _ _) (by simp) (by simp) (by simp) (by simp) (by simp)
  | endSave t e h =>
    obtain ⟨-, e⟩ | ⟨m, -, e⟩ := execProfileSaveDone_cases s <;> rw [e] at h <;> cases h <;>
      exact hlists (.refl _) rfl rfl rfl rfl rfl
  | failSave n t e h =>
    obtain ⟨-, e⟩ | ⟨m, -, e⟩ := execProfileSaveFailed_cases s n <;> rw [e] at h <;> cases h <;>
      exact hlists (.refl _) rfl rfl rfl rfl rfl
  | loadProfile a t e h =>
    obtain rfl | ⟨-, g, n, o, k, -, -, -, -, rfl⟩ := execProfileLoad_cases h
    · exact hs
    · exact hlists (by simp) (by simp) (by simp) (by simp) (by simp) (by simp)
  | reset t e h => cases h; exact ⟨Nat.zero_le _, rfl, Nat.zero_le _, rfl, Nat.zero_le _, rfl⟩
  | clearLine =>
    have hmiss : s.clearVolumes.missList.Sublist s.missList :=
      State.clearVolumes_induction (P := fun u => u.missList.Sublist s.missList)
        (fun u v _ hu => (State.removeVolume_missList_sublist .cleared v).trans hu) (.refl _)
    exact ⟨by simpa [State.clearLine] using hmiss.length_le.trans hs.missList,
      by simpa [State.clearLine] using hs.ranges, by simp [State.clearLine],
      by simpa [State.clearLine] using hs.bays, by simp [State.clearLine],
      by simpa [State.clearLine] using hs.stations⟩

theorem State.Admits.listsBounded (h : s.Admits u) (hs : s.ListsBounded) : u.ListsBounded := by
  obtain ⟨w, -, ⟨t, -, -, rfl⟩ | ⟨-, hroom, rfl⟩⟩ := h.cases
  · exact ⟨by simpa using hs.missList, by simpa using hs.ranges, by simpa using hs.jacketWindow,
      by simpa using hs.bays, by simpa using hs.reports, by simpa using hs.stations⟩
  · refine ⟨?_, by simpa using hs.ranges, by simpa using hs.jacketWindow,
      by simpa using hs.bays, by simpa using hs.reports, by simpa using hs.stations⟩
    simp only [State.repace_missList, State.handAdmit_missList]
    obtain ⟨-, e⟩ | ⟨habsent, e⟩ :=
      State.appendMiss_cases { s with volumes := s.volumes ++ [w] } w.title <;> rw [e]
    · exact hs.missList
    · simpa using hroom.resolve_right habsent

/-! ### Slots and codes of the titles -/

/-- R1: the slot and the code that a title's record stands under. -/
def Title.key (t : Title) : Nat × Nat := (t.slot, t.code)

theorem map_key_updTitle (code : Nat) {f : Title → Title} (hf : ∀ u : Title, (f u).key = u.key) :
    (s.updTitle code f).titles.map Title.key = s.titles.map Title.key := by
  rw [State.updTitle_titles, List.map_map]
  refine List.map_congr_left fun u _ => ?_
  simp only [Function.comp_apply]
  split
  · exact hf u
  · rfl

/-- R6: a title brought to the head, changed or not. -/
theorem map_key_toHead (code : Nat) {f : Title → Title} (hf : ∀ u : Title, (f u).key = u.key) (ts : List Title) :
    (((ts.filter fun u => u.code == code).map f ++ ts.filter fun u => u.code != code).map Title.key).Perm
      (ts.map Title.key) := by
  rw [List.map_append, List.map_map, show Title.key ∘ f = Title.key from funext hf, ← List.map_append]
  exact (List.filter_append_perm (fun u : Title => u.code == code) ts).map _

theorem countOut_key (k : Removal) (u : Title) : (countOut k u).key = u.key := by cases k <;> rfl

theorem State.countRemoval_keys (k : Removal) (code : Nat) :
    ((s.countRemoval k code).titles.map Title.key).Sublist (s.titles.map Title.key) := by
  have hcounted (w : Title) : (s.counted k w code).titles.map Title.key = s.titles.map Title.key := by
    unfold State.counted
    split
    · exact map_key_updTitle code fun u => countOut_key k u
    · exact map_key_updTitle code fun u => countOut_key k u
  obtain ⟨-, e⟩ | ⟨w, -, ⟨-, e⟩ | ⟨-, e⟩⟩ := s.countRemoval_cases k code <;> rw [e]
  · rw [hcounted]
  · rw [← hcounted w]
    exact List.filter_sublist.map _

theorem State.removeVolume_keys (k : Removal) (v : Volume) :
    ((s.removeVolume k v).titles.map Title.key).Sublist (s.titles.map Title.key) := by
  obtain ⟨-, e⟩ | ⟨-, e⟩ := s.removeVolume_cases k v <;> rw [e]
  · simpa using State.countRemoval_keys (s := s.dropVolume v.number) k v.title
  · simp

/-- R1, R6: only a load brings a title into a slot. -/
theorem Change.titleKeys (h : Change c s t) :
    (t.titles.map Title.key).Subperm (s.titles.map Title.key) ∨
      ∃ slot code g p victim, s.title? code = none ∧ s.slotForLoad = some (slot, victim) ∧
        t = s.storeTitle (newTitle slot code g p) victim := by
  have hsame (e : t.titles.map Title.key = s.titles.map Title.key) :
      (t.titles.map Title.key).Subperm (s.titles.map Title.key) := e ▸ .refl _
  cases h with
  | ports | raise | clock | post | unpost | seeCase | jackets | annotate | marry | cased | finish | miss | pass | load
  | stage | empty | reject | idleBay | repace | govern | levels | setPace | releaseLatches | setRange | clearRange
  | writeEnables | clearFlags | setSection | setPacedSection | beginSave =>
    exact .inl (hsame (by simp [takeCase, loadVolume]))
  | remove k v => exact .inl (State.removeVolume_keys k v).subperm
  | unload b r hb => rw [unloadBay_of_bay hb]; exact .inl (.refl _)
  | storeTitle slot code g p victim hcode hslot => exact .inr ⟨slot, code, g, p, victim, hcode, hslot, rfl⟩
  | dropTitles keep => exact .inl (List.filter_sublist.map _).subperm
  | retitle code w f hw hf =>
    exact .inl (hsame (map_key_updTitle code fun u => Prod.ext (hf u).slot (hf u).code))
  | touch code =>
    have hperm := map_key_toHead code (f := id) (fun _ => rfl) s.titles
    rw [List.map_id] at hperm
    exact .inl hperm.subperm
  | endSave t e h =>
    obtain ⟨-, e⟩ | ⟨m, -, e⟩ := execProfileSaveDone_cases s <;> rw [e] at h <;> cases h <;> exact .inl (.refl _)
  | failSave n t e h =>
    obtain ⟨-, e⟩ | ⟨m, -, e⟩ := execProfileSaveFailed_cases s n <;> rw [e] at h <;> cases h <;> exact .inl (.refl _)
  | loadProfile a t e h =>
    obtain rfl | ⟨-, g, n, o, k, -, -, -, -, rfl⟩ := execProfileLoad_cases h <;> exact .inl (hsame (by simp))
  | reset t e h => cases h; exact .inl (List.nil_subperm)
  | clearLine =>
    have hkeys : (s.clearVolumes.titles.map Title.key).Sublist (s.titles.map Title.key) :=
      State.clearVolumes_induction (P := fun u => (u.titles.map Title.key).Sublist (s.titles.map Title.key))
        (fun u v _ hu => (State.removeVolume_keys .cleared v).trans hu) (.refl _)
    exact .inl (by simpa [State.clearLine] using hkeys.subperm)

theorem State.Admits.titleKeys (h : s.Admits u) : (u.titles.map Title.key).Perm (s.titles.map Title.key) := by
  obtain ⟨w, -, ⟨t, -, -, rfl⟩ | ⟨-, -, rfl⟩⟩ := h.cases
  · simpa [State.titlesCountedIn] using map_key_toHead w.title (f := countIn) (fun _ => rfl) s.titles
  · simp

/-- R1: the records of the titles stand in distinct slots, under distinct codes. -/
structure State.TitlesDistinct (s : State) : Prop where
  slots : ∀ t ∈ s.titles, t.slot < 48
  slotsDistinct : (s.titles.map Title.slot).Nodup
  codesDistinct : (s.titles.map Title.code).Nodup

theorem State.TitlesDistinct.of_subperm (hs : s.TitlesDistinct)
    (h : (t.titles.map Title.key).Subperm (s.titles.map Title.key)) : t.TitlesDistinct := by
  obtain ⟨l, hperm, hsub⟩ := h
  have hnodup {α : Type} (f : Nat × Nat → α) (hs : (s.titles.map (f ∘ Title.key)).Nodup) :
      (t.titles.map (f ∘ Title.key)).Nodup := by
    rw [← List.map_map] at hs ⊢
    exact (hperm.map f).nodup_iff.1 (hs.sublist (hsub.map f))
  refine ⟨fun w hw => ?_, hnodup Prod.fst hs.slotsDistinct, hnodup Prod.snd hs.codesDistinct⟩
  obtain ⟨x, hx, e⟩ := List.mem_map.1 (hsub.subset (hperm.mem_iff.2 (List.mem_map_of_mem hw)))
  have hslot : x.slot = w.slot := congrArg Prod.fst e
  exact hslot ▸ hs.slots x hx

/-- R10, R11: the slot a load takes is below 48, and no record that stays stands in it. -/
theorem State.slotForLoad_spec {slot : Nat} {victim : Option Nat} (h : s.slotForLoad = some (slot, victim))
    (hs : s.TitlesDistinct) : slot < 48 ∧ (s.evict victim).titles.Sublist s.titles ∧
      ∀ w ∈ (s.evict victim).titles, w.slot ≠ slot := by
  unfold State.slotForLoad at h
  split at h
  · next n hempty =>
    cases h
    refine ⟨by simpa [Config.titleSlots] using List.mem_of_find?_eq_some hempty, .refl _, fun w hw e => ?_⟩
    have hfree := List.find?_some hempty
    simp only [List.all_eq_true, bne_iff_ne, ne_eq] at hfree
    exact hfree w hw e
  · obtain ⟨x, hx, e⟩ := Option.map_eq_some_iff.1 h
    cases e
    have hmem : x ∈ s.titles := by simpa using List.mem_of_find?_eq_some hx
    refine ⟨hs.slots x hmem, List.filter_sublist, fun w hw e => ?_⟩
    obtain ⟨hw, hcode⟩ := List.mem_filter.1 hw
    rw [List.inj_on_of_nodup_map hs.slotsDistinct hw hmem e] at hcode
    simp at hcode

/-- R11: a load keeps the titles apart. -/
theorem State.TitlesDistinct.storeTitle {slot code : Nat} {g : GeometryGroup} {p : ProcessGroup} {victim : Option Nat}
    (hs : s.TitlesDistinct) (hnumbers : (s.volumes.map Volume.number).Nodup) (hcode : s.title? code = none)
    (hslot : s.slotForLoad = some (slot, victim)) : (s.storeTitle (newTitle slot code g p) victim).TitlesDistinct := by
  have hfresh : ∀ w ∈ s.titles, w.code ≠ code := fun w hw => by simpa using List.find?_eq_none.1 hcode w hw
  obtain ⟨hlt, hsub, hfree⟩ := State.slotForLoad_spec hslot hs
  rw [State.storeTitle_of_nodup victim hnumbers (by simp) hfresh]
  refine ⟨fun w hw => ?_, ?_, ?_⟩
  · obtain rfl | hw := List.mem_cons.1 hw
    · exact hlt
    · exact hs.slots w (hsub.subset hw)
  · refine List.nodup_cons.2 ⟨fun hmem => ?_, hs.slotsDistinct.sublist (hsub.map _)⟩
    obtain ⟨w, hw, e⟩ := List.mem_map.1 hmem
    exact hfree w hw e
  · refine List.nodup_cons.2 ⟨fun hmem => ?_, hs.codesDistinct.sublist (hsub.map _)⟩
    obtain ⟨w, hw, e⟩ := List.mem_map.1 hmem
    exact hfresh w (hsub.subset hw) e

theorem Change.titlesDistinct (h : Change c s t) (hnumbers : (s.volumes.map Volume.number).Nodup)
    (hs : s.TitlesDistinct) : t.TitlesDistinct := by
  obtain hsub | ⟨slot, code, g, p, victim, hcode, hslot, rfl⟩ := h.titleKeys
  · exact hs.of_subperm hsub
  · exact hs.storeTitle hnumbers hcode hslot

/-! ### All tables -/

/-- Numbers below a bound that are distinct are at most as many. -/
theorem length_le_of_nodup_lt {l : List Nat} {n : Nat} (hnodup : l.Nodup) (hlt : ∀ m ∈ l, m < n) : l.length ≤ n := by
  simpa using (List.subperm_of_subset hnodup fun m hm => List.mem_range.2 (hlt m hm)).length_le

theorem State.Reworks.caseWindow_le (h : s.Reworks t) (hs : s.caseWindow.length ≤ 8) : t.caseWindow.length ≤ 8 := by
  cases h with
  | drop _ hwindow => obtain e | e := hwindow <;> simp [e, hs]
  | move f _ _ hwindow => rw [hwindow]; exact hs
  | see tag _ hroom hwindow => simpa [hwindow] using hroom
  | marry v k e _ _ _ _ _ hwindow => rw [hwindow, List.length_drop]; omega
  | bind w victim ht => rw [ht, State.storeTitle_caseWindow]; exact hs

theorem State.TablesBounded.listsBounded (h : s.TablesBounded) : s.ListsBounded :=
  ⟨h.missList, h.ranges, h.jacketWindow, h.bays, h.reports, h.stations⟩

theorem State.TablesBounded.titlesDistinct (h : s.TablesBounded) : s.TitlesDistinct :=
  ⟨h.titleSlots, h.titleSlotsDistinct, h.titleCodesDistinct⟩

/-- The sizes of the titles and the volumes follow from their slots and numbers. -/
theorem State.TablesBounded.of_parts (htitles : s.TitlesDistinct) (hlists : s.ListsBounded)
    (hlt : ∀ v ∈ s.volumes, v.number < 64) (hnumbers : (s.volumes.map Volume.number).Nodup)
    (hserials : (s.volumes.map Volume.serial).Nodup) (hwindow : s.caseWindow.length ≤ 8) : s.TablesBounded where
  titles := by simpa using length_le_of_nodup_lt htitles.slotsDistinct (by simpa using htitles.slots)
  titleSlots := htitles.slots
  titleSlotsDistinct := htitles.slotsDistinct
  titleCodesDistinct := htitles.codesDistinct
  missList := hlists.missList
  ranges := hlists.ranges
  volumes := by simpa using length_le_of_nodup_lt hnumbers (by simpa using hlt)
  volumeNumbers := hlt
  volumeNumbersDistinct := hnumbers
  serialsDistinct := hserials
  caseWindow := hwindow
  jacketWindow := hlists.jacketWindow
  bays := hlists.bays
  reports := hlists.reports
  stations := hlists.stations

theorem State.Reworks.number_lt (h : s.Reworks t) (hs : ∀ v ∈ s.volumes, v.number < 64) : ∀ v ∈ t.volumes, v.number < 64 := by
  intro v hv
  obtain ⟨w, hw, e⟩ := List.mem_map.1 (h.numbers.subset (List.mem_map_of_mem hv))
  exact e ▸ hs w hw

theorem State.Admits.number_lt (h : s.Admits u) (hs : ∀ v ∈ s.volumes, v.number < 64) :
    ∀ v ∈ u.volumes, v.number < 64 := by
  obtain ⟨w, x, hw, hvol, hx⟩ := h.volumes
  intro v hv
  rw [hvol, List.mem_append, List.mem_singleton] at hv
  obtain hv | rfl := hv
  · exact hs v hv
  · obtain rfl | ⟨p, t, rfl⟩ := hx <;> exact hw.slot

theorem Change.tablesBounded (h : Change c s t) (hs : s.TablesBounded) : t.TablesBounded :=
  .of_parts (h.titlesDistinct hs.volumeNumbersDistinct hs.titlesDistinct) (h.listsBounded hs.listsBounded)
    (h.reworks.number_lt hs.volumeNumbers) (hs.volumeNumbersDistinct.sublist h.reworks.numbers)
    (hs.serialsDistinct.sublist h.reworks.serials) (h.reworks.caseWindow_le hs.caseWindow)

theorem State.Admits.tablesBounded (h : s.Admits u) (hs : s.TablesBounded) : u.TablesBounded := by
  have hwindow : u.caseWindow = s.caseWindow := by
    obtain ⟨w, -, ⟨t, -, -, rfl⟩ | ⟨-, -, rfl⟩⟩ := h.cases <;> simp
  exact .of_parts (hs.titlesDistinct.of_subperm h.titleKeys.subperm) (h.listsBounded hs.listsBounded)
    (h.number_lt hs.volumeNumbers) (h.numbers_nodup hs.volumeNumbersDistinct) (h.serials_nodup hs.serialsDistinct)
    (hwindow ▸ hs.caseWindow)

/-- Settles O52, table by table: only an admission, a load and the arrivals add to a table, each where it has room. -/
theorem stepsKeepTablesBounded : Obligations.StepsKeepTablesBounded := by
  unfold Obligations.StepsKeepTablesBounded
  exact fun s t hs h => step_keeps (P := State.TablesBounded) (fun _ _ hs h => h.tablesBounded hs)
    (fun _ _ _ hs h => h.tablesBounded hs) (fun _ hs => { hs with }) (fun _ _ hs => { hs with }) h hs

end Sys2Proof.Machine

/-! SUPPORT. Volume counts and counters of the titles over every step (R3, R4, R18, R19). -/

namespace Sys2Proof.Machine

variable {c : Instr} {s t u : State}

/-! ### Volumes bound to a title -/

theorem boundTo_iff (code : Nat) (v : Volume) : boundTo code v = true ↔ v.bound.isSome = true ∧ v.title = code := by
  simp [boundTo]

/-- R18: a record that keeps its title and its bind part. -/
structure Volume.SameBinding (v w : Volume) : Prop where
  title : w.title = v.title
  bound : w.bound = v.bound
  waiting : w.state = .awaitTitle → v.state = .awaitTitle

theorem Volume.Moved.sameBinding {v w : Volume} (h : v.Moved w) : v.SameBinding w := ⟨h.title, h.bound, h.waiting⟩

theorem boundTo_of_sameBinding {v w : Volume} (h : v.SameBinding w) (code : Nat) : boundTo code w = boundTo code v := by
  simp [boundTo, h.title, h.bound]

theorem countP_map_sameBinding {f : Volume → Volume} (hf : ∀ v : Volume, v.SameBinding (f v)) (code : Nat)
    (vs : List Volume) : (vs.map f).countP (boundTo code) = vs.countP (boundTo code) := by
  rw [List.countP_map]
  exact List.countP_congr fun v _ => by simp [boundTo_of_sameBinding (hf v)]

/-- R18: the volume count of the one record of a code. -/
theorem State.TitlesCounted.eq_of_code_eq (h : s.TitlesCounted) {t u : Title} (ht : t ∈ s.titles) (hu : u ∈ s.titles)
    (e : t.code = u.code) : t = u := List.inj_on_of_nodup_map h.codesDistinct ht hu e

theorem State.title?_of_mem (h : (s.titles.map Title.code).Nodup) {w : Title} (hw : w ∈ s.titles) :
    s.title? w.code = some w := by
  obtain ⟨x, hx⟩ : ∃ x, s.title? w.code = some x :=
    Option.isSome_iff_exists.1 (List.find?_isSome.2 ⟨w, hw, by simp⟩)
  have hcode : x.code = w.code := by simpa using List.find?_some hx
  rw [hx, List.inj_on_of_nodup_map h (List.mem_of_find?_eq_some hx) hw hcode]

/-- R18: no volume is bound to a title that counts none. -/
theorem State.TitlesCounted.unbound_of_count_zero (h : s.TitlesCounted) {w : Title} (hw : w ∈ s.titles)
    (hzero : w.volumeCount = 0) : ∀ v ∈ s.volumes, boundTo w.code v = false := by
  have hcount := h.count w hw
  rw [hzero] at hcount
  intro v hv
  simpa using List.countP_eq_zero.1 hcount.symm v hv

/-! ### Changes that keep every count -/

/-- R18: titles in another order, and volumes that keep their binding. -/
theorem State.TitlesBalanced.of_perm (h : s.TitlesBalanced) (htitles : t.titles.Perm s.titles) {f : Volume → Volume}
    (hf : ∀ v : Volume, v.SameBinding (f v)) (hvol : t.volumes = s.volumes.map f)
    (hnumbers : (t.volumes.map Volume.number).Nodup) : t.TitlesBalanced where
  counted := {
    codesDistinct := (htitles.map _).nodup_iff.2 h.counted.codesDistinct
    numbersDistinct := hnumbers
    waitingUnbound := fun v hv hst => by
      obtain ⟨w, hw, rfl⟩ := List.mem_map.1 (hvol ▸ hv)
      rw [(hf w).bound]
      exact h.counted.waitingUnbound w hw ((hf w).waiting hst)
    boundResident := fun v hv hbound => by
      obtain ⟨w, hw, rfl⟩ := List.mem_map.1 (hvol ▸ hv)
      rw [(hf w).bound] at hbound
      obtain ⟨x, hx, e⟩ := h.counted.boundResident w hw hbound
      exact ⟨x, htitles.mem_iff.2 hx, e.trans (hf w).title.symm⟩
    count := fun w hw => by
      rw [hvol, countP_map_sameBinding hf]
      exact h.counted.count w (htitles.mem_iff.1 hw)
    retiring := fun w hw => h.counted.retiring w (htitles.mem_iff.1 hw) }
  balanced w hw := h.balanced w (htitles.mem_iff.1 hw)

theorem State.TitlesBalanced.of_same (h : s.TitlesBalanced) (htitles : t.titles = s.titles)
    (hvol : t.volumes = s.volumes) : t.TitlesBalanced :=
  h.of_perm (htitles ▸ .refl _) (f := id) (fun _ => ⟨rfl, rfl, id⟩) (by simp [hvol])
    (by rw [hvol]; exact h.counted.numbersDistinct)

/-- R18: titles whose records keep what is counted, and of which some without a volume are dropped. -/
theorem State.TitlesBalanced.dropTitles (h : s.TitlesBalanced) (keep : Title → Bool)
    (hdrop : ∀ t ∈ s.titles, keep t = false → ∃ u ∈ s.titles, u.code = t.code ∧ u.volumeCount = 0) :
    State.TitlesBalanced { s with titles := s.titles.filter keep } where
  counted := { h.counted with
    codesDistinct := h.counted.codesDistinct.sublist (List.filter_sublist.map _)
    boundResident := fun v hv hbound => by
      obtain ⟨w, hw, e⟩ := h.counted.boundResident v hv hbound
      refine ⟨w, List.mem_filter.2 ⟨hw, ?_⟩, e⟩
      by_contra hkeep
      obtain ⟨x, hx, hcode, hzero⟩ := hdrop w hw (by simpa using hkeep)
      have hfree := h.counted.unbound_of_count_zero hx hzero v hv
      rw [(boundTo_iff x.code v).2 ⟨hbound, by rw [hcode, e]⟩] at hfree
      exact absurd hfree (by simp)
    count := fun w hw => h.counted.count w (List.mem_filter.1 hw).1
    retiring := fun w hw => h.counted.retiring w (List.mem_filter.1 hw).1 }
  balanced w hw := h.balanced w (List.mem_filter.1 hw).1

/-- R12 to R15: one title's record changed in what is not counted. -/
theorem State.TitlesBalanced.retitle (h : s.TitlesBalanced) {code : Nat} {w : Title} {f : Title → Title}
    (hw : s.title? code = some w) (hf : ∀ u : Title, u.SameCounts (f u))
    (hret : (f w).retiring = true →
      (w.retiring = true ∧ (f w).hold = w.hold) ∨ ((f w).hold = false ∧ (w.retiring = true ∨ 0 < w.volumeCount))) :
    (s.updTitle code f).TitlesBalanced := by
  obtain ⟨hwmem, hwcode⟩ := State.mem_of_title? hw
  let g : Title → Title := fun u => if u.code = code then f u else u
  have hg (u : Title) : u.SameCounts (g u) := by
    unfold g
    split
    · exact hf u
    · constructor <;> rfl
  have htitles : (s.updTitle code f).titles = s.titles.map g := rfl
  refine ⟨{ h.counted with
    codesDistinct := ?_
    boundResident := fun v hv hbound => ?_
    count := fun x hx => ?_
    retiring := fun x hx hr => ?_ }, fun x hx => ?_⟩
  · rw [htitles, List.map_map, show Title.code ∘ g = Title.code from funext fun u => (hg u).code]
    exact h.counted.codesDistinct
  · obtain ⟨x, hx, e⟩ := h.counted.boundResident v hv hbound
    exact ⟨g x, List.mem_map_of_mem hx, (hg x).code.trans e⟩
  · obtain ⟨y, hy, rfl⟩ := List.mem_map.1 (htitles ▸ hx)
    rw [(hg y).volumeCount, (hg y).code]
    exact h.counted.count y hy
  · obtain ⟨y, hy, rfl⟩ := List.mem_map.1 (htitles ▸ hx)
    rw [(hg y).volumeCount]
    by_cases e : y.code = code
    · obtain rfl : y = w := h.counted.eq_of_code_eq hy hwmem (e.trans hwcode.symm)
      have hgy : g y = f y := if_pos e
      rw [hgy] at hr ⊢
      obtain ⟨hr', hhold⟩ | ⟨hhold, hr' | hpos⟩ := hret hr
      · rw [hhold]; exact h.counted.retiring y hy hr'
      · exact ⟨(h.counted.retiring y hy hr').1, hhold⟩
      · exact ⟨hpos, hhold⟩
    · have hgy : g y = y := if_neg e
      rw [hgy] at hr ⊢
      exact h.counted.retiring y hy hr
  · obtain ⟨y, hy, rfl⟩ := List.mem_map.1 (htitles ▸ hx)
    have hb := h.balanced y hy
    unfold Title.Balanced at hb ⊢
    rwa [(hg y).volumeCount, (hg y).admitted, (hg y).outJacketed, (hg y).outBare, (hg y).diverted, (hg y).cleared]

/-! ### Removals -/

theorem State.mem_of_mem_removeVolume {k : Removal} {v w : Volume} (h : w ∈ (s.removeVolume k v).volumes) :
    w ∈ s.volumes := by
  rw [State.removeVolume_volumes] at h
  exact (List.mem_filter.1 h).1

/-- R37: the record of one number taken out. -/
theorem perm_cons_filter_number {vs : List Volume} (h : (vs.map Volume.number).Nodup) {v : Volume} (hv : v ∈ vs) :
    vs.Perm (v :: vs.filter fun w => w.number != v.number) := by
  obtain ⟨front, back, rfl⟩ := List.append_of_mem hv
  have hother : ∀ w ∈ front ++ back, w.number ≠ v.number := by
    intro w hw e
    rw [(List.perm_middle.map _).nodup_iff, List.map_cons, List.nodup_cons] at h
    exact h.1 (e ▸ List.mem_map_of_mem hw)
  have hkeep {l : List Volume} (hl : ∀ w ∈ l, w.number ≠ v.number) : l.filter (fun w => w.number != v.number) = l :=
    List.filter_eq_self.2 fun w hw => by simpa using hl w hw
  rw [List.filter_append, List.filter_cons, hkeep fun w hw => hother w (by simp [hw]),
    hkeep fun w hw => hother w (by simp [hw])]
  simp [List.perm_middle]

/-- R19: the counters of a title that balances, after the removal of one of its volumes. -/
theorem Title.Balanced.countOut {w : Title} (h : w.Balanced) (hpos : 0 < w.volumeCount) (k : Removal) (q : Bool) :
    Title.Balanced { countOut k w with quotaReached := q } := by
  unfold Title.Balanced at h ⊢
  cases k <;> simp only [Machine.countOut, countUp] <;> omega

/-- R19, R15: the titles that stand after a removal of a bound volume, each as it was but the volume's own, which is
counted and stands while it does not retire with its last volume. -/
theorem State.removeVolume_titles (k : Removal) {v : Volume} {w : Title} (hbound : v.bound.isSome = true)
    (hw : s.title? v.title = some w) : ∃ f : Title → Title, (∀ x, ∃ q, f x = { countOut k x with quotaReached := q }) ∧
      (s.removeVolume k v).titles =
        if w.retiring = true ∧ w.volumeCount ≤ 1
        then (s.titles.map fun x => if x.code = v.title then f x else x).filter fun x => x.code != v.title
        else s.titles.map fun x => if x.code = v.title then f x else x := by
  have hfound : (s.dropVolume v.number).title? v.title = some w := hw
  obtain ⟨f, hcounted, hf⟩ : ∃ f : Title → Title, ((s.dropVolume v.number).counted k w v.title).titles
      = s.titles.map (fun x => if x.code = v.title then f x else x)
      ∧ ∀ x, ∃ q, f x = { countOut k x with quotaReached := q } := by
    unfold State.counted
    split
    · exact ⟨_, rfl, fun x => ⟨true, rfl⟩⟩
    · exact ⟨countOut k, rfl, fun x => ⟨(countOut k x).quotaReached, rfl⟩⟩
  refine ⟨f, hf, ?_⟩
  obtain ⟨-, e⟩ | ⟨hunbound, -⟩ := s.removeVolume_cases k v
  · rw [e, State.repace_titles]
    obtain ⟨hnone, -⟩ | ⟨x, hx, ⟨hstay, e⟩ | ⟨hgo, e⟩⟩ := (s.dropVolume v.number).countRemoval_cases k v.title
    · rw [hnone] at hfound; cases hfound
    · obtain rfl : x = w := Option.some.inj (hx.symm.trans hfound)
      rw [e, hcounted, if_neg (by simpa using hstay)]
    · obtain rfl : x = w := Option.some.inj (hx.symm.trans hfound)
      rw [e, if_pos (by simpa using hgo), ← hcounted]
      rfl
  · rw [hbound] at hunbound; cases hunbound

theorem countOut_fields (k : Removal) (x : Title) : (countOut k x).code = x.code ∧ (countOut k x).hold = x.hold
    ∧ (countOut k x).retiring = x.retiring ∧ (countOut k x).volumeCount = x.volumeCount - 1 := by
  cases k <;> exact ⟨rfl, rfl, rfl, rfl⟩

/-- R19, R15: how the title `x` is counted when a volume of the title of code `n` is removed. -/
structure CountsOut (k : Removal) (n : Nat) (x x' : Title) : Prop where
  code : x'.code = x.code
  other : x.code ≠ n → x' = x
  own : x.code = n → ∃ q, x' = { countOut k x with quotaReached := q }

theorem State.mem_removeVolume_titles (k : Removal) {v : Volume} {w : Title} (hbound : v.bound.isSome = true)
    (hw : s.title? v.title = some w) : ∃ g : Title → Title, (∀ x, CountsOut k v.title x (g x)) ∧
      ((s.removeVolume k v).titles.map Title.code).Sublist (s.titles.map Title.code) ∧
      ∀ x, x ∈ (s.removeVolume k v).titles ↔
        ∃ y ∈ s.titles, g y = x ∧ (y.code = v.title → ¬ (w.retiring = true ∧ w.volumeCount ≤ 1)) := by
  obtain ⟨f, hf, htitles⟩ := State.removeVolume_titles k hbound hw
  let g : Title → Title := fun x => if x.code = v.title then f x else x
  have hg (x : Title) : CountsOut k v.title x (g x) := by
    obtain ⟨q, e⟩ := hf x
    by_cases hx : x.code = v.title
    · exact ⟨by rw [show g x = f x from if_pos hx, e]; exact (countOut_fields k x).1, fun hne => absurd hx hne,
        fun _ => ⟨q, (if_pos hx).trans e⟩⟩
    · exact ⟨congrArg Title.code (if_neg hx), fun _ => if_neg hx, fun h => absurd h hx⟩
  have hcodes : (s.titles.map g).map Title.code = s.titles.map Title.code := by
    rw [List.map_map, show Title.code ∘ g = Title.code from funext fun x => (hg x).code]
  refine ⟨g, hg, ?_, fun x => ?_⟩
  · rw [htitles, ← hcodes]
    split
    · exact List.filter_sublist.map _
    · exact .refl _
  · rw [htitles]
    split
    · next hgo =>
      rw [List.mem_filter, List.mem_map]
      constructor
      · rintro ⟨⟨y, hy, rfl⟩, hne⟩
        exact ⟨y, hy, rfl, fun e => absurd ((hg y).code.trans e) (by simpa using hne)⟩
      · rintro ⟨y, hy, rfl, hstay⟩
        exact ⟨⟨y, hy, rfl⟩, by simpa [(hg y).code] using fun e => hstay e hgo⟩
    · next hstay =>
      rw [List.mem_map]
      exact ⟨fun ⟨y, hy, e⟩ => ⟨y, hy, e, fun _ => hstay⟩, fun ⟨y, hy, e, _⟩ => ⟨y, hy, e⟩⟩

section

variable (h : s.TitlesBalanced) (k : Removal) {v : Volume} (hv : v ∈ s.volumes)

include h

theorem State.TitlesBalanced.numbers_removeVolume : ((s.removeVolume k v).volumes.map Volume.number).Nodup := by
  rw [State.removeVolume_volumes]
  exact h.counted.numbersDistinct.sublist (List.filter_sublist.map _)

include hv

/-- R19: a removal takes one record of the title's, if its volume is bound. -/
theorem State.TitlesBalanced.countP_removeVolume (code : Nat) : s.volumes.countP (boundTo code)
    = (s.removeVolume k v).volumes.countP (boundTo code) + if boundTo code v then 1 else 0 := by
  rw [State.removeVolume_volumes, (perm_cons_filter_number h.counted.numbersDistinct hv).countP_eq, List.countP_cons]

theorem State.TitlesBalanced.removeVolume_of_unbound (hbound : v.bound.isSome = false) :
    (s.removeVolume k v).TitlesBalanced := by
  have htitles : (s.removeVolume k v).titles = s.titles := by
    obtain ⟨hb, -⟩ | ⟨-, e⟩ := s.removeVolume_cases k v
    · rw [hbound] at hb; cases hb
    · rw [e]; simp
  refine ⟨⟨htitles ▸ h.counted.codesDistinct, h.numbers_removeVolume k,
    fun x hx => h.counted.waitingUnbound x (State.mem_of_mem_removeVolume hx), fun x hx hb => ?_, fun x hx => ?_, ?_⟩, ?_⟩
  · exact htitles ▸ h.counted.boundResident x (State.mem_of_mem_removeVolume hx) hb
  · rw [h.counted.count x (htitles ▸ hx), h.countP_removeVolume k hv, boundTo, hbound]
    rfl
  · exact htitles ▸ h.counted.retiring
  · exact htitles ▸ h.balanced

theorem State.TitlesBalanced.removeVolume_of_bound (hbound : v.bound.isSome = true) :
    (s.removeVolume k v).TitlesBalanced := by
  obtain ⟨w, hw, hcode⟩ := h.counted.boundResident v hv hbound
  have hown (y : Title) : boundTo y.code v = true ↔ y.code = v.title := by
    rw [boundTo_iff]; exact ⟨fun h => h.2.symm, fun h => ⟨hbound, h.symm⟩⟩
  have hwcount : w.volumeCount = (s.removeVolume k v).volumes.countP (boundTo w.code) + 1 := by
    rw [h.counted.count w hw, h.countP_removeVolume k hv, if_pos ((hown w).2 hcode)]
  obtain ⟨g, hg, hcodes, hmem⟩ :=
    State.mem_removeVolume_titles k hbound (hcode ▸ State.title?_of_mem h.counted.codesDistinct hw)
  refine ⟨⟨h.counted.codesDistinct.sublist hcodes, h.numbers_removeVolume k,
    fun x hx => h.counted.waitingUnbound x (State.mem_of_mem_removeVolume hx), fun x hx hb => ?_, fun x hx => ?_,
    fun x hx hr => ?_⟩, fun x hx => ?_⟩
  · obtain ⟨y, hy, e⟩ := h.counted.boundResident x (State.mem_of_mem_removeVolume hx) hb
    refine ⟨g y, (hmem _).2 ⟨y, hy, rfl, fun hyv hgo => ?_⟩, (hg y).code.trans e⟩
    obtain rfl : y = w := h.counted.eq_of_code_eq hy hw (hyv.trans hcode.symm)
    have hpos := List.countP_pos_iff.2 ⟨x, hx, (boundTo_iff _ _).2 ⟨hb, e.symm⟩⟩
    omega
  all_goals obtain ⟨y, hy, rfl, hstay⟩ := (hmem x).1 hx
  · have hycount := h.counted.count y hy
    rw [h.countP_removeVolume k hv] at hycount
    rw [(hg y).code]
    by_cases e : y.code = v.title
    · obtain ⟨q, hq⟩ := (hg y).own e
      rw [if_pos ((hown y).2 e)] at hycount
      rw [hq, show ({ countOut k y with quotaReached := q } : Title).volumeCount = y.volumeCount - 1 from
        (countOut_fields k y).2.2.2]
      omega
    · rw [if_neg fun hb => e ((hown y).1 hb)] at hycount
      rw [(hg y).other e]
      omega
  · by_cases e : y.code = v.title
    · obtain rfl : y = w := h.counted.eq_of_code_eq hy hw (e.trans hcode.symm)
      obtain ⟨q, hq⟩ := (hg y).own e
      obtain ⟨-, hhold, hretiring, hvc⟩ := countOut_fields k y
      rw [hq] at hr ⊢
      have hr' : y.retiring = true := hretiring ▸ hr
      have hmany : ¬ y.volumeCount ≤ 1 := fun hle => hstay e ⟨hr', hle⟩
      exact ⟨show 0 < (countOut k y).volumeCount by omega, hhold.trans (h.counted.retiring y hy hr').2⟩
    · rw [(hg y).other e] at hr ⊢
      exact h.counted.retiring y hy hr
  · by_cases e : y.code = v.title
    · obtain rfl : y = w := h.counted.eq_of_code_eq hy hw (e.trans hcode.symm)
      obtain ⟨q, hq⟩ := (hg y).own e
      rw [hq]
      exact (h.balanced y hy).countOut (by omega) k q
    · rw [(hg y).other e]
      exact h.balanced y hy

theorem State.TitlesBalanced.removeVolume : (s.removeVolume k v).TitlesBalanced := by
  cases hbound : v.bound.isSome with
  | true => exact h.removeVolume_of_bound k hv hbound
  | false => exact h.removeVolume_of_unbound k hv hbound

end

/-! ### Binds -/

theorem State.TitlesBalanced.storeTitle (h : s.TitlesBalanced) {slot code : Nat} {g : GeometryGroup} {p : ProcessGroup}
    {victim : Option Nat} (hcode : s.title? code = none) (hslot : s.slotForLoad = some (slot, victim)) :
    (s.storeTitle (newTitle slot code g p) victim).TitlesBalanced := by
  have hfresh : ∀ w ∈ s.titles, w.code ≠ code := fun w hw => by simpa using List.find?_eq_none.1 hcode w hw
  have hevicted : (s.evict victim).TitlesBalanced ∧ (s.evict victim).titles.Sublist s.titles
      ∧ (s.evict victim).volumes = s.volumes := by
    unfold State.slotForLoad at hslot
    split at hslot
    · cases hslot; exact ⟨h, .refl _, rfl⟩
    · obtain ⟨x, hx, e⟩ := Option.map_eq_some_iff.1 hslot
      cases e
      have hmem : x ∈ s.titles := by simpa using List.mem_of_find?_eq_some hx
      have hdormant : titleState x = .dormant := by simpa using List.find?_some hx
      have hzero : x.volumeCount = 0 := ((titleState_eq_dormant_iff x).1 hdormant).2.1
      have hdrop := h.dropTitles (fun w => w.code != x.code) fun w _ e =>
        ⟨x, hmem, (by simpa using e : w.code = x.code).symm, hzero⟩
      exact ⟨hdrop.of_same rfl rfl, List.filter_sublist, rfl⟩
  obtain ⟨hkept, hsub, hvolumes⟩ := hevicted
  let u := newTitle slot code g p
  let f : Volume → Volume := fun v => if waitsFor code v then bindVolume s.profile u v else v
  have htitles : (s.storeTitle u victim).titles = countedIn (s.waitingFor code).length u :: (s.evict victim).titles := by
    rw [State.storeTitle_of_nodup victim h.counted.numbersDistinct (by simp [u]) hfresh]; rfl
  have hvol : (s.storeTitle u victim).volumes = s.volumes.map f := by
    rw [State.storeTitle_of_nodup victim h.counted.numbersDistinct (by simp [u]) hfresh]; rfl
  have hftitle (v : Volume) : (f v).title = v.title := by unfold f; split <;> rfl
  have hfnumber (v : Volume) : (f v).number = v.number := by unfold f; split <;> rfl
  have hbound {v : Volume} (hv : v ∈ s.volumes) (hb : (f v).bound.isSome = true) :
      waitsFor code v = true ∨ waitsFor code v = false ∧ v.bound.isSome = true ∧ v.title ≠ code := by
    cases hwait : waitsFor code v with
    | true => exact .inl rfl
    | false =>
      have hfv : f v = v := by simp [f, hwait]
      rw [hfv] at hb
      obtain ⟨x, hx, e⟩ := h.counted.boundResident v hv hb
      exact .inr ⟨rfl, hb, fun hcode => hfresh x hx (e.trans hcode)⟩
  refine ⟨⟨?_, ?_, fun x hx hst => ?_, fun x hx hb => ?_, fun x hx => ?_, fun x hx hr => ?_⟩, fun x hx => ?_⟩
  · rw [htitles, List.map_cons, List.nodup_cons]
    refine ⟨fun hmem => ?_, hkept.counted.codesDistinct⟩
    obtain ⟨x, hx, e⟩ := List.mem_map.1 hmem
    exact hfresh x (hsub.subset hx) e
  · rw [hvol, List.map_map, show Volume.number ∘ f = Volume.number from funext hfnumber]
    exact h.counted.numbersDistinct
  · obtain ⟨v, hv, rfl⟩ := List.mem_map.1 (hvol ▸ hx)
    unfold f at hst ⊢
    split at hst
    · cases hst
    · next hwait => rw [if_neg hwait]; exact h.counted.waitingUnbound v hv hst
  · obtain ⟨v, hv, rfl⟩ := List.mem_map.1 (hvol ▸ hx)
    rw [hftitle, htitles]
    obtain hwait | ⟨-, hb, -⟩ := hbound hv hb
    · exact ⟨_, List.mem_cons_self, (by simpa using (Bool.and_eq_true_iff.1 hwait).2 : v.title = code).symm⟩
    · obtain ⟨y, hy, e⟩ := hkept.counted.boundResident v (hvolumes ▸ hv) hb
      exact ⟨y, List.mem_cons_of_mem _ hy, e⟩
  · rw [hvol, List.countP_map]
    obtain rfl | hx := List.mem_cons.1 (htitles ▸ hx)
    · have hcount : (s.waitingFor code).length = s.volumes.countP (boundTo code ∘ f) := by
        rw [State.waitingFor_eq, ← List.countP_eq_length_filter]
        refine List.countP_congr fun v hv => ?_
        rw [Function.comp_apply, boundTo_iff, hftitle]
        constructor
        · intro hwait
          exact ⟨by simp [f, hwait, bindVolume], by simpa using (Bool.and_eq_true_iff.1 hwait).2⟩
        · rintro ⟨hb, e⟩
          exact (hbound hv hb).resolve_right fun h => h.2.2 e
      rw [← show (countedIn (s.waitingFor code).length u).code = code from rfl] at hcount
      simpa [countedIn, u] using hcount
    · rw [hkept.counted.count x hx, hvolumes]
      refine List.countP_congr fun v _ => ?_
      rw [Function.comp_apply, boundTo_iff, boundTo_iff, hftitle]
      refine and_congr_left fun e => ?_
      have hnot : waitsFor code v = false := by
        have : x.code ≠ code := hfresh x (hsub.subset hx)
        simp [waitsFor, e, this]
      simp [f, hnot]
  · obtain rfl | hx := List.mem_cons.1 (htitles ▸ hx)
    · simp [countedIn, u] at hr
    · exact hkept.counted.retiring x hx hr
  · obtain rfl | hx := List.mem_cons.1 (htitles ▸ hx)
    · simp only [Title.Balanced, countedIn, u, newTitle_admitted, newTitle_volumeCount, newTitle_outJacketed,
        newTitle_outBare, newTitle_diverted, newTitle_cleared]
      omega
    · exact hkept.balanced x hx

/-- R18: a title counted in stands at the head. -/
theorem State.titlesCountedIn_perm (code : Nat) :
    (s.titlesCountedIn code).Perm (s.titles.map fun x => if x.code = code then countIn x else x) := by
  have hsplit := ((List.filter_append_perm (fun x : Title => x.code == code) s.titles).map
    fun x => if x.code = code then countIn x else x).symm
  rw [List.map_append] at hsplit
  refine List.Perm.trans ?_ hsplit.symm
  have hhead : (s.titles.filter fun x => x.code == code).map (fun x => if x.code = code then countIn x else x)
      = (s.titles.filter fun x => x.code == code).map countIn :=
    List.map_congr_left fun x hx => if_pos (by simpa using (List.mem_filter.1 hx).2)
  have hrest : (s.titles.filter fun x => !(x.code == code)).map (fun x => if x.code = code then countIn x else x)
      = s.titles.filter fun x => x.code != code :=
    map_eq_self fun x hx => if_neg (by simpa using (List.mem_filter.1 hx).2)
  rw [hhead, hrest]
  exact .refl _

theorem State.Admits.titlesBalanced (h : s.Admits u) (hs : s.TitlesBalanced) : u.TitlesBalanced := by
  have hnumbers := h.numbers_nodup hs.counted.numbersDistinct
  obtain ⟨w, hw, ⟨y, hy, hret, rfl⟩ | ⟨-, -, rfl⟩⟩ := h.cases
  · obtain ⟨hymem, hycode⟩ := State.mem_of_title? hy
    let g : Title → Title := fun x => if x.code = w.title then countIn x else x
    let x := bindVolume s.profile y w
    have hgcode (x : Title) : (g x).code = x.code := by unfold g; split <;> rfl
    have hboundTo (code : Nat) : boundTo code x = true ↔ code = w.title :=
      (boundTo_iff code x).trans ⟨fun h => h.2.symm, fun h => ⟨rfl, h.symm⟩⟩
    suffices hsuff : State.TitlesBalanced { s with volumes := s.volumes ++ [x], titles := s.titles.map g } from
      hsuff.of_perm (by simpa using State.titlesCountedIn_perm w.title) (f := id) (fun _ => ⟨rfl, rfl, id⟩)
        (by simp [x]) hnumbers
    refine ⟨⟨?_, by simpa using hnumbers, fun v hv hst => ?_, fun v hv hb => ?_, fun z hz => ?_, fun z hz hr => ?_⟩,
      fun z hz => ?_⟩
    · rw [List.map_map, show Title.code ∘ g = Title.code from funext hgcode]
      exact hs.counted.codesDistinct
    · obtain hv | hv := List.mem_append.1 hv
      · exact hs.counted.waitingUnbound v hv hst
      · obtain rfl := List.mem_singleton.1 hv
        cases hst
    · obtain hv | hv := List.mem_append.1 hv
      · obtain ⟨z, hz, e⟩ := hs.counted.boundResident v hv hb
        exact ⟨g z, List.mem_map_of_mem hz, (hgcode z).trans e⟩
      · obtain rfl := List.mem_singleton.1 hv
        exact ⟨g y, List.mem_map_of_mem hymem, (hgcode y).trans hycode⟩
    · obtain ⟨z, hz', rfl⟩ := List.mem_map.1 hz
      rw [hgcode, List.countP_append, ← hs.counted.count z hz']
      by_cases e : z.code = w.title
      · simp [g, e, countIn, (hboundTo w.title).2 rfl]
      · have hnot : boundTo z.code x = false := Bool.eq_false_iff.2 fun h => e ((hboundTo _).1 h)
        simp [g, e, hnot]
    · obtain ⟨z, hz', rfl⟩ := List.mem_map.1 hz
      by_cases e : z.code = w.title
      · obtain rfl : z = y := hs.counted.eq_of_code_eq hz' hymem (e.trans hycode.symm)
        have hgz : g z = countIn z := if_pos e
        rw [hgz] at hr
        exact absurd (hr.symm.trans hret) (by simp)
      · have hgz : g z = z := if_neg e
        rw [hgz] at hr ⊢
        exact hs.counted.retiring z hz' hr
    · obtain ⟨z, hz', rfl⟩ := List.mem_map.1 hz
      have hb := hs.balanced z hz'
      unfold g
      split
      · unfold Title.Balanced at hb ⊢
        simp only [countIn, countUp]
        omega
      · exact hb
  · suffices hsuff : State.TitlesBalanced { s with volumes := s.volumes ++ [w] } from
      hsuff.of_same (by simp) (by simp)
    refine ⟨{ hs.counted with
      numbersDistinct := by simpa using hnumbers
      waitingUnbound := fun v hv hst => ?_
      boundResident := fun v hv hb => ?_
      count := fun z hz => ?_ }, hs.balanced⟩
    · obtain hv | hv := List.mem_append.1 hv
      · exact hs.counted.waitingUnbound v hv hst
      · obtain rfl := List.mem_singleton.1 hv
        exact hw.bound
    · obtain hv | hv := List.mem_append.1 hv
      · exact hs.counted.boundResident v hv hb
      · obtain rfl := List.mem_singleton.1 hv
        simp [hw.bound] at hb
    · simp [hs.counted.count z hz, boundTo, hw.bound]

/-! ### Every step -/

theorem State.TitlesBalanced.of_empty (htitles : s.titles = []) (hvol : s.volumes = []) : s.TitlesBalanced := by
  refine ⟨⟨?_, ?_, ?_, ?_, ?_, ?_⟩, ?_⟩ <;> simp [htitles, hvol]

theorem State.TitlesBalanced.clearLine (h : s.TitlesBalanced) : s.clearVolumes.clearLine.repace.TitlesBalanced := by
  have hcleared : s.clearVolumes.TitlesBalanced :=
    State.clearVolumes_induction (P := State.TitlesBalanced) (fun _ _ hv hu => hu.removeVolume .cleared hv) h
  exact hcleared.of_same (by simp [State.clearLine]) (by simp [State.clearLine])

/-- R18: a change of the records that leaves the titles, and each removal. -/
theorem State.Reworks.titlesBalanced (h : s.Reworks t) (hs : s.TitlesBalanced) (htitles : t.titles = s.titles) :
    t.TitlesBalanced := by
  have hnumbers := hs.counted.numbersDistinct.sublist h.numbers
  cases h with
  | drop hsub hwindow hcause =>
    obtain ⟨k, v, hv, e⟩ | e | ⟨hvol, hnone⟩ := hcause
    · exact e ▸ hs.removeVolume k hv
    · exact e ▸ hs.clearLine
    · exact .of_empty hnone hvol
  | move f hf hvol => exact hs.of_perm (htitles ▸ .refl _) (fun v => (hf v).sameBinding) hvol hnumbers
  | see tag hvol => exact hs.of_same htitles hvol
  | marry v k e hv hst hentry hclear hvol =>
    refine hs.of_perm (htitles ▸ .refl _) (fun w => ?_) hvol hnumbers
    split
    · exact ⟨rfl, rfl, fun h => by cases h⟩
    · exact ⟨rfl, rfl, id⟩
  | bind u victim ht hcode hadmitted =>
    have hhead : countedIn (s.waitingFor u.code).length u ∈ t.titles := by
      rw [ht, State.storeTitle_of_nodup victim hs.counted.numbersDistinct (by simp [hadmitted]) hcode]
      exact List.mem_cons_self
    exact absurd rfl (hcode (countedIn (s.waitingFor u.code).length u) (htitles ▸ hhead))

theorem Change.titlesBalanced (h : Change c s t) (hs : s.TitlesBalanced) : t.TitlesBalanced := by
  have hreworks := h.reworks
  cases h with
  | remove k v hv => exact hs.removeVolume k hv
  | storeTitle slot code g p victim hcode hslot => exact hs.storeTitle hcode hslot
  | dropTitles keep hdrop => exact hs.dropTitles keep hdrop
  | retitle code w f hw hf hret => exact hs.retitle hw hf hret
  | touch code =>
    exact hs.of_perm (List.filter_append_perm (fun x : Title => x.code == code) s.titles) (f := id)
      (fun _ => ⟨rfl, rfl, id⟩) (by simp) hs.counted.numbersDistinct
  | clearLine => exact hs.clearLine
  | reset t e h => cases h; exact .of_empty rfl rfl
  | unload b r hb => exact hreworks.titlesBalanced hs (by rw [unloadBay_of_bay hb])
  | endSave t e h =>
    obtain ⟨-, e⟩ | ⟨m, -, e⟩ := execProfileSaveDone_cases s <;> rw [e] at h <;> cases h <;> exact hs.of_same rfl rfl
  | failSave n t e h =>
    obtain ⟨-, e⟩ | ⟨m, -, e⟩ := execProfileSaveFailed_cases s n <;> rw [e] at h <;> cases h <;> exact hs.of_same rfl rfl
  | loadProfile a t e h =>
    obtain rfl | ⟨-, g, n, o, k, -, -, -, -, rfl⟩ := execProfileLoad_cases h
    · exact hs
    · exact hs.of_same (by simp) (by simp)
  | _ => exact hreworks.titlesBalanced hs (by simp [takeCase, loadVolume])

/-- Settles O53: an admission and a load count what they bind, a removal counts what it takes. -/
theorem stepsKeepTitlesBalanced : Obligations.StepsKeepTitlesBalanced := by
  unfold Obligations.StepsKeepTitlesBalanced
  exact fun s t hs h => step_keeps (P := State.TitlesBalanced) (fun _ _ hs h => h.titlesBalanced hs)
    (fun _ _ _ hs h => h.titlesBalanced hs) (fun _ hs => hs.of_same rfl rfl) (fun _ _ hs => hs.of_same rfl rfl) h hs

end Sys2Proof.Machine

/-! SUPPORT. Bays and volumes refer to each other over every change (R104, R105). -/

namespace Sys2Proof.Machine

variable {c : Instr} {s t u : State}

/-! ### One record changed -/

/-- R37: the record `v` is changed to `w`, and the others stay. -/
structure State.Updated (s t : State) (v w : Volume) : Prop where
  old : v ∈ s.volumes
  moved : v.Moved w
  mem : ∀ x, x ∈ t.volumes ↔ x = w ∨ x ∈ s.volumes ∧ x.number ≠ v.number

theorem State.updated_of_volumes (hnodup : (s.volumes.map Volume.number).Nodup) {v : Volume} (hv : v ∈ s.volumes)
    {f : Volume → Volume} (hf : v.Moved (f v))
    (hvol : t.volumes = s.volumes.map fun w => if w.number = v.number then f w else w) : s.Updated t v (f v) := by
  refine ⟨hv, hf, fun x => ?_⟩
  rw [hvol, List.mem_map]
  constructor
  · rintro ⟨w, hw, rfl⟩
    by_cases e : w.number = v.number
    · rw [State.eq_of_number_eq hnodup hw hv e]
      exact .inl (if_pos rfl)
    · rw [if_neg e]
      exact .inr ⟨hw, e⟩
  · rintro (rfl | ⟨hx, e⟩)
    · exact ⟨v, hv, if_pos rfl⟩
    · exact ⟨x, hx, if_neg e⟩

theorem State.Updated.new (h : s.Updated t v w) : w ∈ t.volumes := (h.mem w).2 (.inl rfl)

theorem State.Updated.other (h : s.Updated t v w) {x : Volume} (hx : x ∈ s.volumes) (hne : x.number ≠ v.number) :
    x ∈ t.volumes := (h.mem x).2 (.inr ⟨hx, hne⟩)

/-! ### Bays by themselves -/

theorem isOccupied_eq (st : BayState) : st.isOccupied = (heldState st).isSome := by cases st <;> rfl

theorem inBay_of_heldState {st : BayState} {x : VolumeState} (h : heldState st = some x) : x.inBay = true := by
  cases st <;> cases h <;> rfl

theorem Bay.Filled.volume_eq_none {r : Bay} (h : r.Filled) (hr : r.state.isOccupied = false) : r.volume = none := by
  unfold Bay.Filled at h
  rw [isOccupied_eq] at hr
  simpa [hr] using h

theorem Bay.Filled.exists_volume {r : Bay} (h : r.Filled) (hr : r.state.isOccupied = true) :
    ∃ n, r.volume = some n := by
  unfold Bay.Filled at h
  rw [isOccupied_eq] at hr
  exact Option.isSome_iff_exists.1 (h.2 hr)

theorem Bay.filled_of_unoccupied {r : Bay} (hr : r.state.isOccupied = false) (hvol : r.volume = none) : r.Filled := by
  unfold Bay.Filled
  rw [isOccupied_eq] at hr
  simp [hvol, hr]

theorem emptiedBay_unoccupied (clock : Nat) (r : Bay) :
    (emptiedBay clock r).state.isOccupied = false ∧ (emptiedBay clock r).volume = none := by
  unfold emptiedBay
  split
  · exact ⟨rfl, rfl⟩
  · split <;> exact ⟨rfl, rfl⟩

theorem clearBay_unoccupied {r : Bay} (clock : Nat) (h : r.Filled) :
    (clearBay clock r).state.isOccupied = false ∧ (clearBay clock r).volume = none := by
  unfold clearBay
  split
  · exact ⟨rfl, rfl⟩
  · next hr => exact ⟨by simpa using hr, h.volume_eq_none (by simpa using hr)⟩

theorem getElem?_set_cases {α : Type} {l : List α} {b i : Nat} {r x : α} (h : (l.set b r)[i]? = some x) :
    (i = b ∧ x = r) ∨ (i ≠ b ∧ l[i]? = some x) := by
  by_cases e : i = b
  · subst e
    have hlt : i < l.length := by simpa using (List.getElem?_eq_some_iff.1 h).1
    rw [List.getElem?_set_self hlt] at h
    exact .inl ⟨rfl, (Option.some.inj h).symm⟩
  · rw [List.getElem?_set_ne (Ne.symm e)] at h
    exact .inr ⟨e, h⟩

/-! ### The link -/

/-- R105: the volume and the bay hold each other. -/
def Links (b : Nat) (r : Bay) (v : Volume) : Prop :=
  v.bay = some b ∧ r.volume = some v.number ∧ heldState r.state = some v.state

/-- R105: neither the volume nor the bay holds anything. -/
def Unlinked (r : Bay) (v : Volume) : Prop :=
  v.bay = none ∧ v.state.inBay = false ∧ r.volume = none ∧ r.state.isOccupied = false

/-- R105: the volume that a bay holds. -/
theorem State.PressLinked.linked (h : s.PressLinked) {b : Nat} {r : Bay} (hb : s.bays[b]? = some r)
    (hr : r.state.isOccupied = true) : ∃ v ∈ s.volumes, Links b r v := by
  obtain ⟨n, hn⟩ := (h.filled r (List.mem_of_getElem? hb)).exists_volume hr
  obtain ⟨v, hv, rfl, hbay, hst⟩ := h.bayToVolume b r n hb hn
  exact ⟨v, hv, hbay, hn, hst⟩

theorem State.PressLinked.bay_eq_none (h : s.PressLinked) {v : Volume} (hv : v ∈ s.volumes)
    (hst : v.state.inBay = false) : v.bay = none := by simpa [hst] using h.inBay v hv

/-- R105: volumes that stay where they are, each in or out of its bay as before. -/
theorem State.PressLinked.of_map (h : s.PressLinked) (hbays : t.bays = s.bays) {f : Volume → Volume}
    (hvol : t.volumes = s.volumes.map f)
    (hf : ∀ v ∈ s.volumes, (f v).number = v.number ∧ (f v).bay = v.bay
      ∧ ((f v).state = v.state ∨ v.state.inBay = false ∧ (f v).state.inBay = false)) : t.PressLinked where
  numbers v hv := by
    obtain ⟨w, hw, rfl⟩ := List.mem_map.1 (hvol ▸ hv)
    exact (hf w hw).1 ▸ h.numbers w hw
  numbersDistinct := by
    rw [hvol, List.map_map, List.map_congr_left (f := Volume.number ∘ f) (g := Volume.number) fun v hv => (hf v hv).1]
    exact h.numbersDistinct
  filled := hbays ▸ h.filled
  bayToVolume b r n hb hn := by
    obtain ⟨v, hv, rfl, hbay, hst⟩ := h.bayToVolume b r n (hbays ▸ hb) hn
    obtain ⟨hnumber, hfbay, hstate⟩ := hf v hv
    refine ⟨f v, hvol ▸ List.mem_map_of_mem hv, hnumber, hfbay.trans hbay, ?_⟩
    obtain e | ⟨hout, -⟩ := hstate
    · rw [e]; exact hst
    · rw [inBay_of_heldState hst] at hout; cases hout
  volumeToBay v hv b hb := by
    obtain ⟨w, hw, rfl⟩ := List.mem_map.1 (hvol ▸ hv)
    obtain ⟨hnumber, hfbay, -⟩ := hf w hw
    rw [hnumber, hbays]
    exact h.volumeToBay w hw b (hfbay ▸ hb)
  inBay v hv := by
    obtain ⟨w, hw, rfl⟩ := List.mem_map.1 (hvol ▸ hv)
    obtain ⟨-, hfbay, hstate⟩ := hf w hw
    rw [hfbay, ← h.inBay w hw]
    obtain e | ⟨hout, hout'⟩ := hstate
    · rw [e]
    · rw [hout, hout']

theorem State.PressLinked.of_same (h : s.PressLinked) (hbays : t.bays = s.bays) (hvol : t.volumes = s.volumes) :
    t.PressLinked := h.of_map hbays (f := id) (by simp [hvol]) fun _ _ => ⟨rfl, rfl, .inl rfl⟩

/-- R105: one volume outside the press moves to another state outside it. -/
theorem State.PressLinked.of_updVolume (h : s.PressLinked) (hbays : t.bays = s.bays) {v : Volume} (hv : v ∈ s.volumes)
    {f : Volume → Volume} (hvol : t.volumes = s.volumes.map fun w => if w.number = v.number then f w else w)
    (hnumber : ∀ w, (f w).number = w.number) (hbay : ∀ w, (f w).bay = w.bay) (hst : v.state.inBay = false)
    (hst' : (f v).state.inBay = false) : t.PressLinked := by
  refine h.of_map hbays hvol fun w hw => ?_
  by_cases e : w.number = v.number
  · obtain rfl := State.eq_of_number_eq h.numbersDistinct hw hv e
    simp only [if_true]
    exact ⟨hnumber w, hbay w, .inr ⟨hst, hst'⟩⟩
  · simp only [if_neg e]
    exact ⟨trivial, trivial, .inl trivial⟩

/-- R105: one bay and one volume come to hold each other, or let each other go; no other is concerned. -/
theorem State.PressLinked.relink (h : s.PressLinked) {b : Nat} {r r' : Bay} {v w : Volume}
    (hupd : s.Updated t v w) (hb : s.bays[b]? = some r) (hbays : t.bays = s.bays.set b r')
    (hnumbers : (t.volumes.map Volume.number).Nodup)
    (hold : Links b r v ∨ Unlinked r v) (hnew : Links b r' w ∨ Unlinked r' w) : t.PressLinked := by
  have hnumber : w.number = v.number := hupd.moved.number
  have hlt : b < s.bays.length := (List.getElem?_eq_some_iff.1 hb).1
  have hother {x : Volume} (hx : x ∈ s.volumes) (hne : x.number ≠ v.number) : x.bay ≠ some b := by
    intro e
    obtain ⟨r1, hr1, hvol1⟩ := h.volumeToBay x hx b e
    obtain rfl : r1 = r := Option.some.inj (hr1.symm.trans hb)
    obtain ⟨-, hvol, -⟩ | ⟨-, -, hvol, -⟩ := hold
    · exact hne (Option.some.inj (hvol1.symm.trans hvol))
    · rw [hvol] at hvol1; cases hvol1
  refine ⟨fun x hx => ?_, hnumbers, fun x hx => ?_, fun i x n hi hn => ?_, fun x hx i hi => ?_, fun x hx => ?_⟩
  · obtain rfl | ⟨hx, -⟩ := (hupd.mem x).1 hx
    · exact hnumber ▸ h.numbers v hupd.old
    · exact h.numbers x hx
  · obtain hx | rfl := List.mem_or_eq_of_mem_set (hbays ▸ hx)
    · exact h.filled x hx
    · obtain ⟨-, hvol, hst⟩ | ⟨-, -, hvol, hfree⟩ := hnew
      · simp [Bay.Filled, hvol, hst]
      · exact Bay.filled_of_unoccupied hfree hvol
  · obtain ⟨rfl, rfl⟩ | ⟨hne, hi⟩ := getElem?_set_cases (hbays ▸ hi)
    · obtain ⟨hbay, hvol, hst⟩ | ⟨-, -, hvol, -⟩ := hnew
      · exact ⟨w, hupd.new, Option.some.inj (hvol.symm.trans hn), hbay, hst⟩
      · rw [hvol] at hn; cases hn
    · obtain ⟨y, hy, rfl, hbay, hst⟩ := h.bayToVolume i x n hi hn
      refine ⟨y, hupd.other hy fun e => ?_, rfl, hbay, hst⟩
      obtain rfl := State.eq_of_number_eq h.numbersDistinct hy hupd.old e
      obtain ⟨hbay', -⟩ | ⟨hbay', -⟩ := hold
      · exact hne (Option.some.inj (hbay.symm.trans hbay'))
      · rw [hbay'] at hbay; cases hbay
  · obtain rfl | ⟨hx, hne⟩ := (hupd.mem x).1 hx
    · obtain ⟨hbay, hvol, -⟩ | ⟨hbay, -⟩ := hnew
      · obtain rfl : i = b := Option.some.inj (hi.symm.trans hbay)
        exact ⟨r', by rw [hbays, List.getElem?_set_self hlt], hvol⟩
      · rw [hbay] at hi; cases hi
    · obtain ⟨r1, hr1, hvol1⟩ := h.volumeToBay x hx i hi
      have hib : i ≠ b := fun e => hother hx hne (e ▸ hi)
      exact ⟨r1, by rw [hbays, List.getElem?_set_ne (Ne.symm hib)]; exact hr1, hvol1⟩
  · obtain rfl | ⟨hx, -⟩ := (hupd.mem x).1 hx
    · obtain ⟨hbay, -, hst⟩ | ⟨hbay, hout, -⟩ := hnew
      · rw [hbay, inBay_of_heldState hst]; rfl
      · rw [hbay, hout]; rfl
    · exact h.inBay x hx

/-- R105: a bay that holds nothing changes to another state that holds nothing. -/
theorem State.PressLinked.of_setBay (h : s.PressLinked) {b : Nat} {r r' : Bay} (hb : s.bays[b]? = some r)
    (hr : r.state.isOccupied = false) (hr' : r'.state.isOccupied = false) (hvol' : r'.volume = none)
    (hbays : t.bays = s.bays.set b r') (hvol : t.volumes = s.volumes) : t.PressLinked := by
  have hnone := (h.filled r (List.mem_of_getElem? hb)).volume_eq_none hr
  refine ⟨hvol ▸ h.numbers, hvol ▸ h.numbersDistinct, fun x hx => ?_, fun i x n hi hn => ?_, fun x hx i hi => ?_,
    hvol ▸ h.inBay⟩
  · obtain hx | rfl := List.mem_or_eq_of_mem_set (hbays ▸ hx)
    · exact h.filled x hx
    · exact Bay.filled_of_unoccupied hr' hvol'
  · obtain ⟨rfl, rfl⟩ | ⟨-, hi⟩ := getElem?_set_cases (hbays ▸ hi)
    · rw [hvol'] at hn; cases hn
    · rw [hvol]; exact h.bayToVolume i x n hi hn
  · obtain ⟨r1, hr1, hvol1⟩ := h.volumeToBay x (hvol ▸ hx) i hi
    have hib : i ≠ b := by
      rintro rfl
      obtain rfl : r1 = r := Option.some.inj (hr1.symm.trans hb)
      rw [hnone] at hvol1; cases hvol1
    exact ⟨r1, by rw [hbays, List.getElem?_set_ne (Ne.symm hib)]; exact hr1, hvol1⟩

/-- R105: volumes outside the press come and go without a bay. -/
theorem State.PressLinked.of_mem (h : s.PressLinked) (hbays : t.bays = s.bays)
    (hlt : ∀ v ∈ t.volumes, v.number < 64) (hnumbers : (t.volumes.map Volume.number).Nodup)
    (hstay : ∀ v ∈ s.volumes, v.state.inBay = true → v ∈ t.volumes)
    (hfrom : ∀ v ∈ t.volumes, v ∈ s.volumes ∨ v.state.inBay = false ∧ v.bay = none) : t.PressLinked where
  numbers := hlt
  numbersDistinct := hnumbers
  filled := hbays ▸ h.filled
  bayToVolume b r n hb hn := by
    obtain ⟨v, hv, hnumber, hbay, hst⟩ := h.bayToVolume b r n (hbays ▸ hb) hn
    exact ⟨v, hstay v hv (inBay_of_heldState hst), hnumber, hbay, hst⟩
  volumeToBay v hv b hb := by
    obtain hv | ⟨-, hnone⟩ := hfrom v hv
    · rw [hbays]; exact h.volumeToBay v hv b hb
    · rw [hnone] at hb; cases hb
  inBay v hv := by
    obtain hv | ⟨hout, hnone⟩ := hfrom v hv
    · exact h.inBay v hv
    · rw [hout, hnone]; rfl

/-- R105: with no volume and no bay occupied. -/
theorem State.PressLinked.of_empty (hvol : s.volumes = []) (hbays : ∀ r ∈ s.bays, r.state.isOccupied = false ∧ r.volume = none) :
    s.PressLinked := by
  refine ⟨by simp [hvol], by simp [hvol], fun r hr => Bay.filled_of_unoccupied (hbays r hr).1 (hbays r hr).2,
    fun b r n hb hn => ?_, by simp [hvol], by simp [hvol]⟩
  rw [(hbays r (List.mem_of_getElem? hb)).2] at hn
  cases hn

/-! ### The clear -/

theorem State.clearVolume_volumes (n : Nat) : (s.clearVolume n).volumes = s.volumes.filter fun v => v.number != n := by
  unfold State.clearVolume
  split
  · next hnone => exact (List.filter_eq_self.2 fun v hv => by simpa using List.find?_eq_none.1 hnone v hv).symm
  · next v hv => rw [State.removeVolume_volumes, (State.mem_of_volume? hv).2]

/-- R65: the clear takes every record of the 64 numbers. -/
theorem State.clearVolumes_volumes : s.clearVolumes.volumes = s.volumes.filter fun v => decide (64 ≤ v.number) := by
  have hfold : ∀ (ns : List Nat) (s : State),
      (ns.foldl State.clearVolume s).volumes = s.volumes.filter fun v => decide (v.number ∉ ns) := by
    intro ns
    induction ns with
    | nil => simp
    | cons n ns ih =>
      intro s
      rw [List.foldl_cons, ih, State.clearVolume_volumes, List.filter_filter]
      refine List.filter_congr fun v _ => ?_
      by_cases e : v.number = n <;> simp [e]
  rw [State.clearVolumes, hfold]
  exact List.filter_congr fun v _ => by simp [Config.volumeSlots]

theorem State.clearVolumes_volumes_eq_nil (h : ∀ v ∈ s.volumes, v.number < 64) : s.clearVolumes.volumes = [] := by
  rw [State.clearVolumes_volumes]
  exact List.filter_eq_nil_iff.2 fun v hv => by simpa using h v hv

end Sys2Proof.Machine

/-! SUPPORT. Bays, volumes, the miss list and the post-press sequence over every step (R21, R47, R53, R105). -/

namespace Sys2Proof.Machine

variable {c : Instr} {s t u : State}

/-! ### Bays and volumes -/

/-- R113 to R119: the record of the volume that an occupied bay holds, changed with it. -/
theorem State.PressLinked.updated_updBayVolume (h : s.PressLinked) {b : Nat} {r : Bay} {v : Volume}
    (hlink : Links b r v) (hv : v ∈ s.volumes) {f : Volume → Volume} (hf : v.Moved (f v))
    (hvol : t.volumes = (s.updBayVolume r f).volumes) : s.Updated t v (f v) := by
  refine State.updated_of_volumes h.numbersDistinct hv hf (hvol.trans ?_)
  obtain ⟨-, hn, -⟩ := hlink
  simp [State.updBayVolume, hn]

/-- R105: what an occupied bay does with its volume. -/
theorem State.PressLinked.relink_bay (h : s.PressLinked) {b : Nat} {r r' : Bay} (hb : s.bays[b]? = some r)
    (hr : r.state.isOccupied = true) {f : Volume → Volume} (hf : ∀ v : Volume, v.Moved (f v))
    (hbays : t.bays = s.bays.set b r') (hvol : t.volumes = (s.updBayVolume r f).volumes)
    (hnumbers : (t.volumes.map Volume.number).Nodup)
    (hnew : ∀ v, Links b r v → Links b r' (f v) ∨ Unlinked r' (f v)) : t.PressLinked := by
  obtain ⟨v, hv, hlink⟩ := h.linked hb hr
  exact h.relink (h.updated_updBayVolume hlink hv (hf v) hvol) hb hbays hnumbers (.inl hlink) (hnew v hlink)

theorem Change.pressLinked (h : Change c s t) (hs : s.PressLinked) : t.PressLinked := by
  have hnumbers := h.numbers_nodup hs.numbersDistinct
  have hlt := h.reworks.number_lt hs.numbers
  cases h with
  | ports | raise | clock | post | unpost | seeCase | jackets | repace | govern | levels | setPace | releaseLatches
  | dropTitles | retitle | touch | setRange | clearRange | writeEnables | clearFlags | setSection | setPacedSection
  | beginSave => exact hs.of_same (by simp) (by simp)
  | annotate f hf => exact hs.of_map rfl rfl fun v _ => ⟨(hf v).number, (hf v).bay, .inl (hf v).state⟩
  | marry v k e hv hst => exact hs.of_updVolume rfl hv rfl (fun _ => rfl) (fun _ => rfl) (by rw [hst]; rfl) rfl
  | cased v hv hst => exact hs.of_updVolume rfl hv rfl (fun _ => rfl) (fun _ => rfl) (by rw [hst]; rfl) rfl
  | finish v f hv hst => exact hs.of_updVolume rfl hv rfl (fun _ => rfl) (fun _ => rfl) (by rw [hst]; rfl) rfl
  | miss v hv hst =>
    exact hs.of_updVolume (by simp) hv (State.goMissing_volumes v.number) (fun _ => rfl) (fun _ => rfl)
      (by obtain e | e := hst <;> rw [e] <;> rfl) rfl
  | pass v hv hst =>
    exact hs.of_updVolume rfl hv rfl (fun _ => rfl) (fun _ => rfl) (by obtain e | e := hst <;> rw [e] <;> rfl) rfl
  | remove k v hv hst =>
    refine hs.of_mem (by simp) hlt hnumbers (fun w hw hin => ?_) fun w hw => .inl (State.mem_of_mem_removeVolume hw)
    rw [State.removeVolume_volumes, List.mem_filter]
    refine ⟨hw, bne_iff_ne.2 fun e => ?_⟩
    rw [State.eq_of_number_eq hs.numbersDistinct hw hv e, hst] at hin
    cases hin
  | unload b r hb hr =>
    obtain ⟨v, hv, hbay, hn, hst⟩ := hs.linked hb (by rw [hr]; rfl)
    have e := unloadBay_of_bay hb
    rw [hn, Option.getD_some] at e
    exact hs.relink (r' := { r with state := .emptying, volume := some v.number, overdwellDue := none })
      (State.updated_of_volumes hs.numbersDistinct hv (f := fun v => { v with state := .unloading })
      { Volume.Moved.refl v with waiting := by simp } (congrArg (fun x : State × Answer => x.1.volumes) e))
      hb (congrArg (fun x : State × Answer => x.1.bays) e) hnumbers (.inl ⟨hbay, hn, hst⟩) (.inl ⟨hbay, rfl, rfl⟩)
  | load v b r hv hst hb hr =>
    have hnone := (hs.filled r (List.mem_of_getElem? hb)).volume_eq_none (by rw [hr]; rfl)
    have hout : v.state.inBay = false := by rw [hst]; rfl
    exact hs.relink (r' := { Bay.unoccupied .reserved none with volume := some v.number })
      (State.updated_of_volumes hs.numbersDistinct hv
      (f := fun u => { u with state := .loading, bay := some b, dwell := some (s.dwellFor v) })
      { Volume.Moved.refl v with waiting := by simp } (State.loadVolume_volumes v b))
      hb (by simp [loadVolume]) hnumbers (.inr ⟨hs.bay_eq_none hv hout, hout, hnone, by rw [hr]; rfl⟩)
      (.inl ⟨rfl, rfl, rfl⟩)
  | stage b r r' f hb hr hr' hvol hf =>
    exact hs.relink_bay hb hr hf.moved (by simp) (by simp [State.updBayVolume]; split <;> rfl) hnumbers
      fun v hlink => .inl ⟨(hf.bay v).trans hlink.1, by rw [hvol, (hf.moved v).number]; exact hlink.2.1,
        hf.state v hlink.2.2⟩
  | empty b r was hb hr =>
    exact hs.relink_bay (r' := emptiedBay s.clock r) hb (by rw [hr]; rfl)
      (f := fun v => { v with state := .onOutfeed, bay := none })
      (fun v => { Volume.Moved.refl v with waiting := by simp }) (by simp)
      (by simp [State.updBayVolume]; split <;> rfl) hnumbers
      fun v _ => .inr ⟨rfl, rfl, (emptiedBay_unoccupied ..).2, (emptiedBay_unoccupied ..).1⟩
  | reject b r was hb hr =>
    exact hs.relink_bay (r' := Bay.unoccupied .faulted none) hb (by rw [hr]; rfl)
      (f := fun v => { v with state := .cased, bay := none, dwell := none })
      (fun v => { Volume.Moved.refl v with waiting := by simp }) (by simp) (by simp) hnumbers
      fun v _ => .inr ⟨rfl, rfl, rfl, rfl⟩
  | idleBay b r r' was hb hr hr' hvol =>
    have hnone := (hs.filled r (List.mem_of_getElem? hb)).volume_eq_none hr
    exact hs.of_setBay hb hr hr' (hvol.elim (·.trans hnone) id) (by simp) (by simp)
  | storeTitle slot code g p victim hcode =>
    have hfresh : ∀ w ∈ s.titles, w.code ≠ code := fun w hw => by simpa using List.find?_eq_none.1 hcode w hw
    refine hs.of_map (by simp)
      (by rw [State.storeTitle_of_nodup victim hs.numbersDistinct (by simp) hfresh]) fun v _ => ?_
    split
    · next hwait =>
      have hst : v.state = .awaitTitle := by simpa using (Bool.and_eq_true_iff.1 hwait).1
      exact ⟨rfl, rfl, .inr ⟨by rw [hst]; rfl, rfl⟩⟩
    · exact ⟨rfl, rfl, .inl rfl⟩
  | endSave t e h =>
    obtain ⟨-, e⟩ | ⟨m, -, e⟩ := execProfileSaveDone_cases s <;> rw [e] at h <;> cases h <;> exact hs.of_same rfl rfl
  | failSave n t e h =>
    obtain ⟨-, e⟩ | ⟨m, -, e⟩ := execProfileSaveFailed_cases s n <;> rw [e] at h <;> cases h <;> exact hs.of_same rfl rfl
  | loadProfile a t e h =>
    obtain rfl | ⟨-, g, n, o, k, -, -, -, -, rfl⟩ := execProfileLoad_cases h
    · exact hs
    · exact hs.of_same (by simp) (by simp)
  | reset t e h =>
    cases h
    refine .of_empty rfl fun r hr => ?_
    rw [List.eq_of_mem_replicate hr]
    exact ⟨rfl, rfl⟩
  | clearLine =>
    refine .of_empty (by simpa [State.clearLine] using State.clearVolumes_volumes_eq_nil hs.numbers) fun r hr => ?_
    obtain ⟨x, hx, rfl⟩ : ∃ x ∈ s.bays, clearBay s.clock x = r := by simpa [State.clearLine] using hr
    exact clearBay_unoccupied _ (hs.filled x hx)

theorem State.Admits.pressLinked (h : s.Admits u) (hs : s.PressLinked) : u.PressLinked := by
  have hbays : u.bays = s.bays := by
    obtain ⟨w, -, ⟨t, -, -, rfl⟩ | ⟨-, -, rfl⟩⟩ := h.cases <;> simp
  obtain ⟨w, x, hw, hvol, hx⟩ := h.volumes
  refine hs.of_mem hbays (h.number_lt hs.numbers) (h.numbers_nodup hs.numbersDistinct)
    (fun v hv _ => by rw [hvol]; exact List.mem_append_left _ hv) fun v hv => ?_
  rw [hvol, List.mem_append, List.mem_singleton] at hv
  obtain hv | rfl := hv
  · exact .inl hv
  · obtain rfl | ⟨p, t, rfl⟩ := hx
    · exact .inr ⟨by rw [hw.state]; rfl, hw.bay⟩
    · exact .inr ⟨rfl, hw.bay⟩

end Sys2Proof.Machine

/-! SUPPORT. The miss list over every step (R21, R53). -/

namespace Sys2Proof.Machine

variable {c : Instr} {s t u : State}

/-- R21, R53: the miss list and the volumes that wait for its codes, by themselves. -/
structure State.MissesCarried (s : State) : Prop where
  numbersDistinct : (s.volumes.map Volume.number).Nodup
  unbound : ∀ v ∈ s.volumes, v.state = .awaitTitle → v.bound = none
  distinct : s.missList.Nodup
  absent : ∀ c ∈ s.missList, s.title? c = none
  carried : ∀ c ∈ s.missList, ∃ v ∈ s.volumes, v.state = .awaitTitle ∧ v.title = c
  listed : ∀ v ∈ s.volumes, v.state = .awaitTitle → v.title ∈ s.missList

/-- R53: a record that waits for its title, or does not, as before. -/
structure Volume.SameWaiter (v w : Volume) : Prop where
  number : w.number = v.number
  title : w.title = v.title
  bound : w.bound = v.bound
  waiting : w.state = .awaitTitle ↔ v.state = .awaitTitle

theorem Volume.SameWaiter.refl (v : Volume) : v.SameWaiter v := ⟨rfl, rfl, rfl, .rfl⟩

theorem Volume.Annotated.sameWaiter {v w : Volume} (h : v.Annotated w) : v.SameWaiter w :=
  ⟨h.number, h.title, h.bound, by rw [h.state]⟩

/-- R53: a record that does not wait moves on and still does not wait. -/
theorem Volume.Moved.sameWaiter {v w : Volume} (h : v.Moved w) (hst : v.state ≠ .awaitTitle) : v.SameWaiter w :=
  ⟨h.number, h.title, h.bound, fun hw => h.waiting hw, fun hv => absurd hv hst⟩

theorem State.MissesCarried.of_map (h : s.MissesCarried) (hmiss : t.missList = s.missList)
    (htitles : ∀ c, s.title? c = none → t.title? c = none) {f : Volume → Volume} (hvol : t.volumes = s.volumes.map f)
    (hf : ∀ v ∈ s.volumes, v.SameWaiter (f v)) : t.MissesCarried where
  numbersDistinct := by
    rw [hvol, List.map_map, List.map_congr_left (f := Volume.number ∘ f) (g := Volume.number)
      fun v hv => (hf v hv).number]
    exact h.numbersDistinct
  unbound v hv hst := by
    obtain ⟨w, hw, rfl⟩ := List.mem_map.1 (hvol ▸ hv)
    rw [(hf w hw).bound]
    exact h.unbound w hw ((hf w hw).waiting.1 hst)
  distinct := hmiss ▸ h.distinct
  absent c hc := htitles c (h.absent c (hmiss ▸ hc))
  carried c hc := by
    obtain ⟨v, hv, hst, rfl⟩ := h.carried c (hmiss ▸ hc)
    exact ⟨f v, hvol ▸ List.mem_map_of_mem hv, (hf v hv).waiting.2 hst, (hf v hv).title⟩
  listed v hv hst := by
    obtain ⟨w, hw, rfl⟩ := List.mem_map.1 (hvol ▸ hv)
    rw [hmiss, (hf w hw).title]
    exact h.listed w hw ((hf w hw).waiting.1 hst)

theorem State.MissesCarried.of_same (h : s.MissesCarried) (hmiss : t.missList = s.missList)
    (htitles : ∀ c, s.title? c = none → t.title? c = none) (hvol : t.volumes = s.volumes) : t.MissesCarried :=
  h.of_map hmiss htitles (f := id) (by simp [hvol]) fun v _ => .refl v

/-- R53: one record that does not wait is changed, and still does not wait. -/
theorem State.MissesCarried.of_updVolume (h : s.MissesCarried) (hmiss : t.missList = s.missList)
    (htitles : t.titles = s.titles) {v : Volume} (hv : v ∈ s.volumes) {f : Volume → Volume}
    (hvol : t.volumes = s.volumes.map fun w => if w.number = v.number then f w else w)
    (hst : v.state ≠ .awaitTitle) (hf : v.SameWaiter (f v)) : t.MissesCarried := by
  refine h.of_map hmiss (fun c hc => by unfold State.title? at hc ⊢; rwa [htitles]) hvol fun w hw => ?_
  split
  · next e =>
    obtain rfl := State.eq_of_number_eq h.numbersDistinct hw hv e
    exact hf
  · exact .refl w

/-- R1: codes that leave the titles stay absent. -/
theorem State.title?_eq_none_of_subperm (h : (t.titles.map Title.key).Subperm (s.titles.map Title.key)) {c : Nat}
    (hc : s.title? c = none) : t.title? c = none := by
  refine List.find?_eq_none.2 fun w hw => ?_
  obtain ⟨x, hx, e⟩ := List.mem_map.1 (h.subset (List.mem_map_of_mem hw))
  have hcode : x.code = w.code := congrArg Prod.snd e
  simpa [hcode] using List.find?_eq_none.1 hc x hx

theorem State.MissesCarried.removeVolume (h : s.MissesCarried) (k : Removal) {v : Volume} (hv : v ∈ s.volumes) :
    (s.removeVolume k v).MissesCarried := by
  have hother {w : Volume} (hw : w ∈ s.volumes) (hne : w ≠ v) : w ∈ (s.removeVolume k v).volumes := by
    rw [State.removeVolume_volumes, List.mem_filter]
    exact ⟨hw, bne_iff_ne.2 fun e => hne (State.eq_of_number_eq h.numbersDistinct hw hv e)⟩
  have hnumbers : ((s.removeVolume k v).volumes.map Volume.number).Nodup := by
    rw [State.removeVolume_volumes]
    exact h.numbersDistinct.sublist (List.filter_sublist.map _)
  have hunbound : ∀ w ∈ (s.removeVolume k v).volumes, w.state = .awaitTitle → w.bound = none :=
    fun w hw => h.unbound w (State.mem_of_mem_removeVolume hw)
  have habsent {c : Nat} (hc : c ∈ s.missList) : (s.removeVolume k v).title? c = none :=
    State.title?_eq_none_of_subperm (State.removeVolume_keys k v).subperm (h.absent c hc)
  have hsub := State.removeVolume_missList_sublist (s := s) k v
  obtain ⟨hbound, e⟩ | ⟨hbound, e⟩ := s.removeVolume_cases k v
  · have hmiss : (s.removeVolume k v).missList = s.missList := by rw [e]; simp
    refine ⟨hnumbers, hunbound, hmiss ▸ h.distinct, fun c hc => habsent (hmiss ▸ hc), fun c hc => ?_, fun w hw hst => ?_⟩
    · obtain ⟨w, hw, hst, hcode⟩ := h.carried c (hmiss ▸ hc)
      refine ⟨w, hother hw ?_, hst, hcode⟩
      rintro rfl
      rw [h.unbound w hw hst] at hbound
      cases hbound
    · rw [hmiss]
      exact h.listed w (State.mem_of_mem_removeVolume hw) hst
  · have hwaiting : (s.dropVolume v.number).waitingFor v.title
        = (s.removeVolume k v).volumes.filter fun w => w.state == .awaitTitle && w.title == v.title := by
      rw [State.removeVolume_volumes]; rfl
    have hmiss : (s.removeVolume k v).missList
        = if ((s.dropVolume v.number).waitingFor v.title).isEmpty then s.missList.filter fun c => c != v.title
          else s.missList := by
      rw [e, State.repace_missList, State.settleMiss]
      split <;> rfl
    refine ⟨hnumbers, hunbound, h.distinct.sublist hsub, fun c hc => habsent (hsub.subset hc), fun c hc => ?_,
      fun w hw hst => ?_⟩
    · obtain ⟨w, hw, hst, hcode⟩ := h.carried c (hsub.subset hc)
      by_cases hwv : w = v
      · subst hwv
        rw [hmiss] at hc
        split at hc
        · simp [hcode] at hc
        · next hsome =>
          rw [List.isEmpty_iff, hwaiting] at hsome
          obtain ⟨x, hx⟩ := List.exists_mem_of_ne_nil _ hsome
          obtain ⟨hxmem, hxst⟩ := List.mem_filter.1 hx
          rw [Bool.and_eq_true, beq_iff_eq, beq_iff_eq] at hxst
          exact ⟨x, hxmem, hxst.1, hxst.2.trans hcode⟩
      · exact ⟨w, hother hw hwv, hst, hcode⟩
    · have hold := h.listed w (State.mem_of_mem_removeVolume hw) hst
      rw [hmiss]
      split
      · next hnone =>
        rw [List.isEmpty_iff, hwaiting] at hnone
        refine List.mem_filter.2 ⟨hold, bne_iff_ne.2 fun hcode => ?_⟩
        have := List.filter_eq_nil_iff.1 hnone w hw
        simp [hst, hcode] at this
      · exact hold

theorem State.MissesCarried.storeTitle (h : s.MissesCarried) {w : Title} {victim : Option Nat}
    (hadmitted : w.admitted = 0) (hfresh : ∀ x ∈ s.titles, x.code ≠ w.code) : (s.storeTitle w victim).MissesCarried := by
  have hsub : (s.evict victim).titles.Sublist s.titles := by
    unfold State.evict
    split
    · exact .refl _
    · exact List.filter_sublist
  rw [State.storeTitle_of_nodup victim h.numbersDistinct (by simp [hadmitted]) hfresh]
  refine ⟨?_, fun v hv hst => ?_, h.distinct.sublist List.filter_sublist, fun c hc => ?_, fun c hc => ?_,
    fun v hv hst => ?_⟩
  · simp only [List.map_map]
    rw [List.map_congr_left (g := Volume.number) fun v _ => ?_]
    · exact h.numbersDistinct
    · simp only [Function.comp_apply]
      split <;> rfl
  · obtain ⟨x, hx, rfl⟩ := List.mem_map.1 hv
    split at hst
    · cases hst
    · next hwait => rw [if_neg hwait]; exact h.unbound x hx hst
  · obtain ⟨hc, hne⟩ := List.mem_filter.1 hc
    refine List.find?_eq_none.2 fun x hx => ?_
    obtain rfl | hx := List.mem_cons.1 hx
    · exact fun e => bne_iff_ne.1 hne (by simpa [countedIn] using Eq.symm (by simpa [countedIn] using e))
    · exact List.find?_eq_none.1 (h.absent c hc) x (hsub.subset hx)
  · obtain ⟨hc, hne⟩ := List.mem_filter.1 hc
    obtain ⟨v, hv, hst, rfl⟩ := h.carried c hc
    refine ⟨v, List.mem_map.2 ⟨v, hv, if_neg fun hwait => bne_iff_ne.1 hne ?_⟩, hst, rfl⟩
    simpa using (Bool.and_eq_true_iff.1 hwait).2
  · obtain ⟨x, hx, rfl⟩ := List.mem_map.1 hv
    split at hst
    · cases hst
    · next hwait =>
      rw [if_neg hwait]
      refine List.mem_filter.2 ⟨h.listed x hx hst, bne_iff_ne.2 fun e => hwait ?_⟩
      simp [waitsFor, hst, e]

/-- R105: the volume of an occupied bay, and the records after it is changed. -/
theorem State.PressLinked.volumes_updBayVolume (h : s.PressLinked) {b : Nat} {r : Bay} (hb : s.bays[b]? = some r)
    (hr : r.state.isOccupied = true) : ∃ v ∈ s.volumes, Links b r v ∧ ∀ f : Volume → Volume,
      (s.updBayVolume r f).volumes = s.volumes.map fun w => if w.number = v.number then f w else w := by
  obtain ⟨v, hv, hbay, hn, hst⟩ := h.linked hb hr
  exact ⟨v, hv, ⟨hbay, hn, hst⟩, fun f => by simp [State.updBayVolume, hn]⟩

theorem Links.not_waiting {b : Nat} {r : Bay} {v : Volume} (h : Links b r v) : v.state ≠ .awaitTitle := by
  intro e
  have := inBay_of_heldState h.2.2
  rw [e] at this
  cases this

theorem Change.missesCarried (h : Change c s t) (hl : s.PressLinked) (hs : s.MissesCarried) : t.MissesCarried := by
  have htitles : (t.titles.map Title.key).Subperm (s.titles.map Title.key) → ∀ c, s.title? c = none → t.title? c = none :=
    fun hsub c hc => State.title?_eq_none_of_subperm hsub hc
  have hkeys := h.titleKeys
  cases h with
  | ports | raise | clock | post | unpost | seeCase | jackets | repace | govern | levels | setPace | releaseLatches
  | setRange | clearRange | writeEnables | clearFlags | setSection | setPacedSection
  | beginSave | idleBay =>
    exact hs.of_same (by simp) (fun c hc => by unfold State.title? at hc ⊢; simpa using hc) (by simp)
  | annotate f hf => exact hs.of_map rfl (fun _ hc => hc) rfl fun v _ => (hf v).sameWaiter
  | marry v k e hv hst =>
    have hne : v.state ≠ .awaitTitle := by rw [hst]; simp
    exact hs.of_updVolume rfl rfl hv rfl hne ⟨rfl, rfl, rfl, by simp [hst]⟩
  | cased v hv hst =>
    have hne : v.state ≠ .awaitTitle := by rw [hst]; simp
    exact hs.of_updVolume rfl rfl hv rfl hne ⟨rfl, rfl, rfl, by simp [hst]⟩
  | finish v f hv hst =>
    have hne : v.state ≠ .awaitTitle := by rw [hst]; simp
    exact hs.of_updVolume rfl rfl hv rfl hne ⟨rfl, rfl, rfl, by simp [hst]⟩
  | miss v hv hst =>
    have hne : v.state ≠ .awaitTitle := by obtain e | e := hst <;> rw [e] <;> simp
    exact hs.of_updVolume (by simp) (by simp) hv (State.goMissing_volumes v.number) hne ⟨rfl, rfl, rfl, by simp [hne]⟩
  | pass v hv hst =>
    have hne : v.state ≠ .awaitTitle := by obtain e | e := hst <;> rw [e] <;> simp
    exact hs.of_updVolume rfl rfl hv rfl hne ⟨rfl, rfl, rfl, by simp [hne]⟩
  | remove k v hv => exact hs.removeVolume k hv
  | unload b r hb hr =>
    obtain ⟨v, hv, hlink, -⟩ := hl.volumes_updBayVolume hb (by rw [hr]; rfl)
    have e := unloadBay_of_bay hb
    rw [hlink.2.1, Option.getD_some] at e
    exact hs.of_updVolume (by rw [e]) (by rw [e]) hv (congrArg (fun x : State × Answer => x.1.volumes) e)
      hlink.not_waiting ⟨rfl, rfl, rfl, by simp [hlink.not_waiting]⟩
  | load v b r hv hst =>
    have hne : v.state ≠ .awaitTitle := by rw [hst]; simp
    exact hs.of_updVolume (by simp [loadVolume]) (by simp [loadVolume]) hv (State.loadVolume_volumes v b) hne
      ⟨rfl, rfl, rfl, by simp [hne]⟩
  | stage b r r' f hb hr hr' hvol hf =>
    obtain ⟨v, hv, hlink, hupd⟩ := hl.volumes_updBayVolume hb hr
    exact hs.of_updVolume (f := f) (by simp) (by simp) hv
      ((by simp [State.updBayVolume]; split <;> rfl : _ = (s.updBayVolume r f).volumes).trans (hupd f))
      hlink.not_waiting ((hf.moved v).sameWaiter hlink.not_waiting)
  | empty b r was hb hr =>
    obtain ⟨v, hv, hlink, hupd⟩ := hl.volumes_updBayVolume hb (by rw [hr]; rfl)
    exact hs.of_updVolume (by simp) (by simp) hv
      ((by simp [State.updBayVolume]; split <;> rfl : _ = (s.updBayVolume r _).volumes).trans (hupd _))
      hlink.not_waiting ⟨rfl, rfl, rfl, by simp [hlink.not_waiting]⟩
  | reject b r was hb hr =>
    obtain ⟨v, hv, hlink, hupd⟩ := hl.volumes_updBayVolume hb (by rw [hr]; rfl)
    exact hs.of_updVolume (f := fun v => { v with state := .cased, bay := none, dwell := none }) (by simp) (by simp) hv
      ((by simp : _ = (s.updBayVolume r _).volumes).trans (hupd _))
      hlink.not_waiting ⟨rfl, rfl, rfl, by simp [hlink.not_waiting]⟩
  | storeTitle slot code g p victim hcode =>
    exact hs.storeTitle rfl fun w hw => by simpa using List.find?_eq_none.1 hcode w hw
  | dropTitles keep => exact hs.of_same rfl (htitles (List.filter_sublist.map _).subperm) rfl
  | retitle code w f hw hf =>
    refine hs.of_same rfl (htitles ?_) rfl
    rw [map_key_updTitle code fun u => Prod.ext (hf u).slot (hf u).code]
  | touch code =>
    have hperm := map_key_toHead code (f := id) (fun _ => rfl) s.titles
    rw [List.map_id] at hperm
    exact hs.of_same rfl (htitles hperm.subperm) rfl
  | endSave t e h =>
    obtain ⟨-, e⟩ | ⟨m, -, e⟩ := execProfileSaveDone_cases s <;> rw [e] at h <;> cases h <;>
      exact hs.of_same rfl (fun _ hc => hc) rfl
  | failSave n t e h =>
    obtain ⟨-, e⟩ | ⟨m, -, e⟩ := execProfileSaveFailed_cases s n <;> rw [e] at h <;> cases h <;>
      exact hs.of_same rfl (fun _ hc => hc) rfl
  | loadProfile a t e h =>
    obtain rfl | ⟨-, g, n, o, k, -, -, -, -, rfl⟩ := execProfileLoad_cases h
    · exact hs
    · exact hs.of_same (by simp) (fun c hc => by unfold State.title? at hc ⊢; simpa using hc) (by simp)
  | reset t e h =>
    cases h
    exact ⟨List.nodup_nil, by simp [State.reset], List.nodup_nil, by simp [State.reset], by simp [State.reset],
      by simp [State.reset]⟩
  | clearLine =>
    have hcleared : s.clearVolumes.MissesCarried :=
      State.clearVolumes_induction (P := State.MissesCarried) (fun _ _ hv hu => hu.removeVolume .cleared hv) hs
    exact hcleared.of_same (by simp [State.clearLine])
      (fun c hc => by unfold State.title? at hc ⊢; simpa [State.clearLine] using hc) (by simp [State.clearLine])

theorem State.Admits.missesCarried (h : s.Admits u) (hs : s.MissesCarried) : u.MissesCarried := by
  have hnumbers := h.numbers_nodup hs.numbersDistinct
  have hkeys := h.titleKeys
  obtain ⟨w, hw, ⟨t, ht, hret, rfl⟩ | ⟨hnone, -, rfl⟩⟩ := h.cases
  · have hmem (v : Volume) : v ∈ s.volumes ++ [bindVolume s.profile t w] → v.state = .awaitTitle → v ∈ s.volumes := by
      intro hv hst
      obtain hv | hv := List.mem_append.1 hv
      · exact hv
      · obtain rfl := List.mem_singleton.1 hv
        cases hst
    refine ⟨hnumbers, fun v hv hst => hs.unbound v (hmem v (by simpa using hv) hst) hst, by simpa using hs.distinct,
      fun c hc => State.title?_eq_none_of_subperm hkeys.subperm (hs.absent c (by simpa using hc)), fun c hc => ?_,
      fun v hv hst => by simpa using hs.listed v (hmem v (by simpa using hv) hst) hst⟩
    obtain ⟨v, hv, hst, hcode⟩ := hs.carried c (by simpa using hc)
    exact ⟨v, by simp [hv], hst, hcode⟩
  · have hmem (c : Nat) : c ∈ (State.appendMiss w.title { s with volumes := s.volumes ++ [w] }).missList ↔
        c ∈ s.missList ∨ c = w.title := by
      obtain ⟨hin, e⟩ | ⟨-, e⟩ := State.appendMiss_cases { s with volumes := s.volumes ++ [w] } w.title <;> rw [e]
      · exact ⟨.inl, fun h => h.elim id fun h => h ▸ hin⟩
      · simp
    have hdistinct : (State.appendMiss w.title { s with volumes := s.volumes ++ [w] }).missList.Nodup := by
      obtain ⟨-, e⟩ | ⟨hin, e⟩ := State.appendMiss_cases { s with volumes := s.volumes ++ [w] } w.title <;> rw [e]
      · exact hs.distinct
      · exact List.nodup_append.2 ⟨hs.distinct, by simp, fun a ha b hb e => hin (List.mem_singleton.1 hb ▸ e ▸ ha)⟩
    have hvol (v : Volume) (hv : v ∈ (State.handAdmit (State.appendMiss w.title
        { s with volumes := s.volumes ++ [w] })).repace.volumes) : v ∈ s.volumes ∨ v = w := by simpa using hv
    refine ⟨hnumbers, fun v hv hst => ?_, by simpa using hdistinct, fun c hc => ?_, fun c hc => ?_, fun v hv hst => ?_⟩
    · obtain hv | rfl := hvol v hv
      · exact hs.unbound v hv hst
      · exact hw.bound
    · refine State.title?_eq_none_of_subperm hkeys.subperm ?_
      obtain hc | rfl := (hmem c).1 (by simpa using hc)
      · exact hs.absent c hc
      · exact hnone
    · obtain hc | rfl := (hmem c).1 (by simpa using hc)
      · obtain ⟨v, hv, hst, hcode⟩ := hs.carried c hc
        exact ⟨v, by simp [hv], hst, hcode⟩
      · exact ⟨w, by simp, hw.state, rfl⟩
    · have hlisted : v.title ∈ (State.appendMiss w.title { s with volumes := s.volumes ++ [w] }).missList := by
        obtain hv | rfl := hvol v hv
        · exact (hmem _).2 (.inl (hs.listed v hv hst))
        · exact (hmem _).2 (.inr rfl)
      simpa using hlisted

theorem State.missesSound_iff : s.MissesSound ↔ s.PressLinked ∧ s.MissesCarried :=
  ⟨fun h => ⟨h.linked, h.linked.numbersDistinct, h.unbound, h.distinct, h.absent, h.carried, h.listed⟩,
    fun ⟨hl, h⟩ => ⟨hl, h.unbound, h.distinct, h.absent, h.carried, h.listed⟩⟩

theorem Change.missesSound (h : Change c s t) (hs : s.MissesSound) : t.MissesSound := by
  obtain ⟨hl, hm⟩ := State.missesSound_iff.1 hs
  exact State.missesSound_iff.2 ⟨h.pressLinked hl, h.missesCarried hl hm⟩

theorem State.Admits.missesSound (h : s.Admits u) (hs : s.MissesSound) : u.MissesSound := by
  obtain ⟨hl, hm⟩ := State.missesSound_iff.1 hs
  exact State.missesSound_iff.2 ⟨h.pressLinked hl, h.missesCarried hm⟩

end Sys2Proof.Machine

/-! SUPPORT. The post-press sequence over every step (R47). -/

namespace Sys2Proof.Machine

variable {c : Instr} {s t u : State}

/-- R47: the post-press sequence and the volumes it holds, by themselves. -/
structure State.PostPressOrdered (s : State) : Prop where
  numbersDistinct : (s.volumes.map Volume.number).Nodup
  distinct : s.postPress.Nodup
  holds : ∀ n, n ∈ s.postPress ↔ ∃ v ∈ s.volumes, v.number = n ∧ v.state.isPostPress = true
  passedInFront : s.postPress.Pairwise fun m n => s.Passed n → s.Passed m

/-- R47: two states that stand in the same part of the sequence, or both outside it. -/
def SamePart (x y : VolumeState) : Prop := y.isPostPress = x.isPostPress ∧ y.isPassed = x.isPassed

theorem isPostPress_of_isPassed {x : VolumeState} (h : x.isPassed = true) : x.isPostPress = true := by
  cases x <;> simp_all [VolumeState.isPassed, VolumeState.isPostPress]

/-- R105, R47: of the volumes in bays, those in UNLOADING stand in the sequence, unpassed. -/
theorem part_of_heldState {st : BayState} {x : VolumeState} (h : heldState st = some x) :
    (x.isPostPress = true ↔ st = .emptying) ∧ x.isPassed = false := by
  cases st <;> cases h <;> simp [VolumeState.isPassed, VolumeState.isPostPress]

/-- R37: what holds of the record of a number, after the record `v` was changed to `w`. -/
theorem State.Updated.exists_iff {v w : Volume} (h : s.Updated t v w) (P : VolumeState → Prop) (n : Nat) : (∃ x ∈ t.volumes, x.number = n ∧ P x.state) ↔
      if n = v.number then P w.state else ∃ x ∈ s.volumes, x.number = n ∧ P x.state := by
  split
  · next e =>
    subst e
    constructor
    · rintro ⟨x, hx, hn, hp⟩
      obtain rfl | ⟨-, hne⟩ := (h.mem x).1 hx
      · exact hp
      · exact absurd hn hne
    · exact fun hp => ⟨w, h.new, h.moved.number, hp⟩
  · next hne =>
    constructor
    · rintro ⟨x, hx, rfl, hp⟩
      obtain rfl | ⟨hx, -⟩ := (h.mem x).1 hx
      · exact absurd h.moved.number hne
      · exact ⟨x, hx, rfl, hp⟩
    · rintro ⟨x, hx, rfl, hp⟩
      exact ⟨x, h.other hx hne, rfl, hp⟩

theorem State.PostPressOrdered.of_map (h : s.PostPressOrdered) (hpost : t.postPress = s.postPress)
    {f : Volume → Volume} (hvol : t.volumes = s.volumes.map f)
    (hf : ∀ v ∈ s.volumes, (f v).number = v.number ∧ SamePart v.state (f v).state) : t.PostPressOrdered := by
  have hexists (P : VolumeState → Bool) (hP : ∀ v ∈ s.volumes, P (f v).state = P v.state) (n : Nat) :
      (∃ x ∈ t.volumes, x.number = n ∧ P x.state = true) ↔ ∃ x ∈ s.volumes, x.number = n ∧ P x.state = true := by
    rw [hvol]
    constructor
    · rintro ⟨x, hx, hn, hp⟩
      obtain ⟨v, hv, rfl⟩ := List.mem_map.1 hx
      exact ⟨v, hv, (hf v hv).1 ▸ hn, hP v hv ▸ hp⟩
    · rintro ⟨v, hv, hn, hp⟩
      exact ⟨f v, List.mem_map_of_mem hv, (hf v hv).1.trans hn, (hP v hv).trans hp⟩
  have hpassed : t.Passed = s.Passed := funext fun n => propext (hexists _ (fun v hv => (hf v hv).2.2) n)
  refine ⟨?_, hpost ▸ h.distinct, fun n => ?_, ?_⟩
  · rw [hvol, List.map_map, List.map_congr_left (f := Volume.number ∘ f) (g := Volume.number)
      fun v hv => (hf v hv).1]
    exact h.numbersDistinct
  · rw [hpost, hexists _ (fun v hv => (hf v hv).2.1)]
    exact h.holds n
  · rw [hpost, hpassed]
    exact h.passedInFront

theorem State.PostPressOrdered.of_same (h : s.PostPressOrdered) (hpost : t.postPress = s.postPress)
    (hvol : t.volumes = s.volumes) : t.PostPressOrdered :=
  h.of_map hpost (f := id) (by simp [hvol]) fun _ _ => ⟨rfl, rfl, rfl⟩

/-- R47: one record moves within its part. -/
theorem State.PostPressOrdered.of_updVolume (h : s.PostPressOrdered) (hpost : t.postPress = s.postPress) {v : Volume}
    (hv : v ∈ s.volumes) {f : Volume → Volume}
    (hvol : t.volumes = s.volumes.map fun w => if w.number = v.number then f w else w)
    (hnumber : (f v).number = v.number) (hpart : SamePart v.state (f v).state) : t.PostPressOrdered := by
  refine h.of_map hpost hvol fun w hw => ?_
  split
  · next e =>
    obtain rfl := State.eq_of_number_eq h.numbersDistinct hw hv e
    exact ⟨hnumber, hpart⟩
  · exact ⟨rfl, rfl, rfl⟩

/-- R47: a number stands in the sequence exactly while its record is in one of the four states. -/
theorem State.PostPressOrdered.mem_iff (h : s.PostPressOrdered) {v : Volume} (hv : v ∈ s.volumes) :
    v.number ∈ s.postPress ↔ v.state.isPostPress = true := by
  rw [h.holds]
  constructor
  · rintro ⟨w, hw, hn, hp⟩
    exact State.eq_of_number_eq h.numbersDistinct hw hv hn ▸ hp
  · exact fun hp => ⟨v, hv, rfl, hp⟩

/-- R47: a record leaves the sequence and the four states together. -/
theorem State.PostPressOrdered.leave (h : s.PostPressOrdered) {n : Nat}
    (hnumbers : (t.volumes.map Volume.number).Nodup) (hpost : t.postPress = s.postPress.filter fun m => m != n)
    (hexists : ∀ (P : VolumeState → Bool) (m : Nat), (∀ x, P x = true → x.isPostPress = true) →
      ((∃ x ∈ t.volumes, x.number = m ∧ P x.state = true) ↔
        m ≠ n ∧ ∃ x ∈ s.volumes, x.number = m ∧ P x.state = true)) : t.PostPressOrdered where
  numbersDistinct := hnumbers
  distinct := hpost ▸ h.distinct.sublist List.filter_sublist
  holds m := by
    rw [hpost, List.mem_filter, bne_iff_ne, hexists VolumeState.isPostPress m fun _ => id, h.holds m, and_comm]
  passedInFront := by
    have hpassed (m : Nat) (hm : m ≠ n) : t.Passed m ↔ s.Passed m :=
      (hexists VolumeState.isPassed m fun _ => isPostPress_of_isPassed).trans ⟨fun h => h.2, fun h => ⟨hm, h⟩⟩
    rw [hpost]
    refine (h.passedInFront.sublist List.filter_sublist).imp_of_mem fun {a b} ha hb hab => ?_
    rw [hpassed a (bne_iff_ne.1 (List.mem_filter.1 ha).2), hpassed b (bne_iff_ne.1 (List.mem_filter.1 hb).2)]
    exact hab

/-- R44, R130: a volume that goes MISSING. -/
theorem State.PostPressOrdered.goMissing (h : s.PostPressOrdered) {v : Volume} (hv : v ∈ s.volumes) :
    (s.goMissing v.number).PostPressOrdered := by
  have hnumbers : ((s.goMissing v.number).volumes.map Volume.number).Nodup := by
    rw [State.goMissing_volumes, List.map_map, List.map_congr_left (g := Volume.number) fun w _ => ?_]
    · exact h.numbersDistinct
    · simp only [Function.comp_apply]
      split <;> rfl
  have hupd : s.Updated (s.goMissing v.number) v { v with state := .missing } :=
    State.updated_of_volumes h.numbersDistinct hv (f := fun v => { v with state := .missing })
      { Volume.Moved.refl v with waiting := by simp } (State.goMissing_volumes v.number)
  refine h.leave (n := v.number) hnumbers (by simp [State.goMissing]) fun P m hP => ?_
  rw [hupd.exists_iff (fun x => P x = true)]
  split
  · next e =>
    refine ⟨fun hp => absurd (hP _ hp) (by simp [VolumeState.isPostPress]), fun hm => absurd e hm.1⟩
  · next hne => exact ⟨fun hx => ⟨hne, hx⟩, fun hx => hx.2⟩

theorem State.PostPressOrdered.removeVolume (h : s.PostPressOrdered) (k : Removal) (v : Volume) :
    (s.removeVolume k v).PostPressOrdered := by
  have hnumbers : ((s.removeVolume k v).volumes.map Volume.number).Nodup := by
    rw [State.removeVolume_volumes]
    exact h.numbersDistinct.sublist (List.filter_sublist.map _)
  refine h.leave (n := v.number) hnumbers (by simp) fun P m _ => ?_
  rw [State.removeVolume_volumes]
  constructor
  · rintro ⟨x, hx, rfl, hp⟩
    obtain ⟨hx, hne⟩ := List.mem_filter.1 hx
    exact ⟨bne_iff_ne.1 hne, x, hx, rfl, hp⟩
  · rintro ⟨hne, x, hx, rfl, hp⟩
    exact ⟨x, List.mem_filter.2 ⟨hx, bne_iff_ne.2 hne⟩, rfl, hp⟩

/-- R47: a passed volume takes its place behind the passed part. -/
theorem State.PostPressOrdered.pass (h : s.PostPressOrdered) {v : Volume} (hv : v ∈ s.volumes) :
    ((s.updVolume v.number fun u => { u with state := .awaitJacket }).placePassed v.number).PostPressOrdered := by
  let t := s.updVolume v.number fun u => { u with state := .awaitJacket }
  let w : Volume := { v with state := .awaitJacket }
  let others := s.postPress.filter fun m => m != v.number
  let passed : Nat → Bool := fun m => ((t.volume? m).map fun v => v.state.isPassed).getD false
  have hpost : (t.placePassed v.number).postPress = others.filter passed ++ v.number :: others.filter fun m => !passed m :=
    rfl
  have hvol : (t.placePassed v.number).volumes = t.volumes := rfl
  have hupd : s.Updated (t.placePassed v.number) v w :=
    State.updated_of_volumes h.numbersDistinct hv (f := fun u => { u with state := .awaitJacket })
      { Volume.Moved.refl v with waiting := by simp } rfl
  have hnumbers : (t.volumes.map Volume.number).Nodup := by
    rw [State.updVolume_volumes, List.map_map, List.map_congr_left (g := Volume.number) fun w _ => ?_]
    · exact h.numbersDistinct
    · simp only [Function.comp_apply]
      split <;> rfl
  have hpassed (m : Nat) : passed m = true ↔ (t.placePassed v.number).Passed m := by
    constructor
    · intro hm
      obtain hnone | ⟨x, hx⟩ := Option.eq_none_or_eq_some (t.volume? m)
      · simp [passed, hnone] at hm
      · obtain ⟨hmem, hn⟩ := State.mem_of_volume? hx
        exact ⟨x, hmem, hn, by simpa [passed, hx] using hm⟩
    · rintro ⟨x, hx, rfl, hp⟩
      simp [passed, State.volume?_of_mem hnumbers hx, hp]
  have hperm : (t.placePassed v.number).postPress.Perm (v.number :: others) := by
    rw [hpost]
    exact List.perm_middle.trans ((List.filter_append_perm passed others).cons _)
  have hself : (t.placePassed v.number).Passed v.number := ⟨w, hupd.new, rfl, rfl⟩
  refine ⟨hnumbers, hperm.nodup_iff.2 (List.nodup_cons.2 ⟨by simp [others], h.distinct.sublist List.filter_sublist⟩),
    fun n => ?_, ?_⟩
  · rw [hperm.mem_iff, hupd.exists_iff (fun x => x.isPostPress = true), List.mem_cons,
      List.mem_filter, bne_iff_ne, h.holds]
    by_cases e : n = v.number
    · simp [e, w, VolumeState.isPostPress]
    · simp [e]
  · rw [hpost, List.pairwise_append, List.pairwise_cons]
    have hfront : ∀ m ∈ others.filter passed, (t.placePassed v.number).Passed m :=
      fun m hm => (hpassed m).1 (List.mem_filter.1 hm).2
    have hback : ∀ m ∈ others.filter fun m => !passed m, ¬ (t.placePassed v.number).Passed m := by
      intro m hm hp
      simp [(hpassed m).2 hp] at hm
    refine ⟨List.pairwise_iff_getElem.2 fun i j hi _ _ _ => hfront _ (List.getElem_mem hi), ⟨fun b _ _ => hself,
      List.pairwise_iff_getElem.2 fun i j _ hj _ hp => absurd hp (hback _ (List.getElem_mem hj))⟩, fun a ha b _ _ => hfront a ha⟩

/-- R47, R112: an unloaded volume joins the tail, unpassed. -/
theorem State.PostPressOrdered.join (h : s.PostPressOrdered) {v w : Volume} (hupd : s.Updated t v w)
    (hnumbers : (t.volumes.map Volume.number).Nodup) (hpost : t.postPress = s.postPress ++ [v.number])
    (hold : v.state.isPostPress = false) (hnew : w.state = .unloading) : t.PostPressOrdered := by
  have hfresh : v.number ∉ s.postPress := fun hm => by simp [(h.mem_iff hupd.old).1 hm] at hold
  have hpassed (n : Nat) : t.Passed n ↔ s.Passed n := by
    refine (hupd.exists_iff (fun x => x.isPassed = true) n).trans ?_
    split
    · next e =>
      subst e
      refine ⟨fun hp => by simp [hnew, VolumeState.isPassed] at hp, ?_⟩
      rintro ⟨x, hx, hn, hp⟩
      rw [State.eq_of_number_eq h.numbersDistinct hx hupd.old hn] at hp
      simp [isPostPress_of_isPassed hp] at hold
    · exact .rfl
  have hlast : ¬ t.Passed v.number := fun hp => by
    have := (hupd.exists_iff (fun x => x.isPassed = true) v.number).1 hp
    simp [hnew, VolumeState.isPassed] at this
  refine ⟨hnumbers, ?_, fun n => ?_, ?_⟩
  · rw [hpost, (List.perm_append_singleton _ _).nodup_iff]
    exact List.nodup_cons.2 ⟨hfresh, h.distinct⟩
  · rw [hupd.exists_iff (fun x => x.isPostPress = true), hpost, List.mem_append, List.mem_singleton,
      h.holds]
    by_cases e : n = v.number
    · simp [e, hnew, VolumeState.isPostPress]
    · simp [e]
  · rw [hpost, List.pairwise_append]
    refine ⟨h.passedInFront.imp fun {a b} hab => ?_, by simp, fun a _ b hb hp => ?_⟩
    · rw [hpassed, hpassed]; exact hab
    · rw [List.mem_singleton.1 hb] at hp
      exact absurd hp hlast

theorem Change.postPressOrdered (h : Change c s t) (hl : s.PressLinked) (hs : s.PostPressOrdered) :
    t.PostPressOrdered := by
  have hnumbers := h.numbers_nodup hs.numbersDistinct
  cases h with
  | ports | raise | clock | post | unpost | seeCase | jackets | repace | govern | levels | setPace | releaseLatches
  | dropTitles | retitle | touch | setRange | clearRange | writeEnables | clearFlags | setSection | setPacedSection
  | beginSave | idleBay => exact hs.of_same (by simp) (by simp)
  | annotate f hf =>
    exact hs.of_map rfl rfl fun v _ => ⟨(hf v).number, by rw [(hf v).state], by rw [(hf v).state]⟩
  | marry v k e hv hst => exact hs.of_updVolume rfl hv rfl rfl (by rw [hst]; exact ⟨rfl, rfl⟩)
  | cased v hv hst => exact hs.of_updVolume rfl hv rfl rfl (by rw [hst]; exact ⟨rfl, rfl⟩)
  | finish v f hv hst => exact hs.of_updVolume rfl hv rfl rfl (by rw [hst]; exact ⟨rfl, rfl⟩)
  | miss v hv => exact hs.goMissing hv
  | pass v hv => exact hs.pass hv
  | remove k v => exact hs.removeVolume k v
  | unload b r hb hr =>
    obtain ⟨v, hv, ⟨-, hn, hst⟩, -⟩ := hl.volumes_updBayVolume hb (by rw [hr]; rfl)
    have e := unloadBay_of_bay hb
    rw [hn, Option.getD_some] at e
    refine hs.join (State.updated_of_volumes hs.numbersDistinct hv (f := fun v => { v with state := .unloading })
      { Volume.Moved.refl v with waiting := by simp } (congrArg (fun x : State × Answer => x.1.volumes) e))
      hnumbers (congrArg (fun x : State × Answer => x.1.postPress) e) ?_ rfl
    rw [hr] at hst
    rw [← Option.some.inj hst]
    rfl
  | load v b r hv hst =>
    exact hs.of_updVolume (by simp [loadVolume]) hv (State.loadVolume_volumes v b) rfl (by rw [hst]; exact ⟨rfl, rfl⟩)
  | stage b r r' f hb hr hr' hvol hf =>
    obtain ⟨v, hv, hlink, hupd⟩ := hl.volumes_updBayVolume hb hr
    refine hs.of_updVolume (f := f) (by simp) hv
      ((by simp [State.updBayVolume]; split <;> rfl : _ = (s.updBayVolume r f).volumes).trans (hupd f))
      (hf.moved v).number ?_
    obtain ⟨hold, hold'⟩ := part_of_heldState hlink.2.2
    obtain ⟨hnew, hnew'⟩ := part_of_heldState (hf.state v hlink.2.2)
    exact ⟨Bool.eq_iff_iff.2 (hnew.trans (hf.emptying.trans hold.symm)), hnew'.trans hold'.symm⟩
  | empty b r was hb hr =>
    obtain ⟨v, hv, hlink, hupd⟩ := hl.volumes_updBayVolume hb (by rw [hr]; rfl)
    refine hs.of_updVolume (f := fun v => { v with state := .onOutfeed, bay := none }) (by simp) hv
      ((by simp [State.updBayVolume]; split <;> rfl : _ = (s.updBayVolume r _).volumes).trans (hupd _)) rfl ?_
    obtain ⟨hold, hold'⟩ := part_of_heldState hlink.2.2
    exact ⟨(hold.2 hr).symm, hold'.symm⟩
  | reject b r was hb hr =>
    obtain ⟨v, hv, hlink, hupd⟩ := hl.volumes_updBayVolume hb (by rw [hr]; rfl)
    refine hs.of_updVolume (f := fun v => { v with state := .cased, bay := none, dwell := none }) (by simp) hv
      ((by simp : _ = (s.updBayVolume r _).volumes).trans (hupd _)) rfl ?_
    obtain ⟨hold, hold'⟩ := part_of_heldState hlink.2.2
    exact ⟨(Bool.eq_false_iff.2 fun hp => by simp [hr] at hold; simp [hold] at hp).symm, hold'.symm⟩
  | storeTitle slot code g p victim hcode =>
    have hfresh : ∀ w ∈ s.titles, w.code ≠ code := fun w hw => by simpa using List.find?_eq_none.1 hcode w hw
    refine hs.of_map (by simp) (by rw [State.storeTitle_of_nodup victim hs.numbersDistinct (by simp) hfresh]) fun v _ => ?_
    split
    · next hwait =>
      have hst : v.state = .awaitTitle := by simpa using (Bool.and_eq_true_iff.1 hwait).1
      exact ⟨rfl, by rw [hst]; exact ⟨rfl, rfl⟩⟩
    · exact ⟨rfl, rfl, rfl⟩
  | endSave t e h =>
    obtain ⟨-, e⟩ | ⟨m, -, e⟩ := execProfileSaveDone_cases s <;> rw [e] at h <;> cases h <;> exact hs.of_same rfl rfl
  | failSave n t e h =>
    obtain ⟨-, e⟩ | ⟨m, -, e⟩ := execProfileSaveFailed_cases s n <;> rw [e] at h <;> cases h <;> exact hs.of_same rfl rfl
  | loadProfile a t e h =>
    obtain rfl | ⟨-, g, n, o, k, -, -, -, -, rfl⟩ := execProfileLoad_cases h
    · exact hs
    · exact hs.of_same (by simp) (by simp)
  | reset t e h => cases h; exact ⟨List.nodup_nil, List.nodup_nil, by simp [State.reset], .nil⟩
  | clearLine =>
    have hcleared : s.clearVolumes.PostPressOrdered :=
      State.clearVolumes_induction (P := State.PostPressOrdered) (fun _ v _ hu => hu.removeVolume .cleared v) hs
    exact hcleared.of_same (by simp [State.clearLine]) (by simp [State.clearLine])

theorem State.Admits.postPressOrdered (h : s.Admits u) (hs : s.PostPressOrdered) : u.PostPressOrdered := by
  have hpost : u.postPress = s.postPress := by
    obtain ⟨w, -, ⟨t, -, -, rfl⟩ | ⟨-, -, rfl⟩⟩ := h.cases <;> simp
  obtain ⟨w, x, hw, hvol, hx⟩ := h.volumes
  have hout : x.state.isPostPress = false := by
    obtain rfl | ⟨p, t, rfl⟩ := hx
    · rw [hw.state]; rfl
    · rfl
  have hexists (P : VolumeState → Bool) (hP : ∀ y, P y = true → y.isPostPress = true) (n : Nat) :
      (∃ y ∈ u.volumes, y.number = n ∧ P y.state = true) ↔ ∃ y ∈ s.volumes, y.number = n ∧ P y.state = true := by
    rw [hvol]
    constructor
    · rintro ⟨y, hy, hn, hp⟩
      obtain hy | hy := List.mem_append.1 hy
      · exact ⟨y, hy, hn, hp⟩
      · rw [List.mem_singleton.1 hy] at hp
        simp [hP _ hp] at hout
    · rintro ⟨y, hy, hn, hp⟩
      exact ⟨y, List.mem_append_left _ hy, hn, hp⟩
  have hpassed : u.Passed = s.Passed := funext fun n => propext (hexists _ (fun _ => isPostPress_of_isPassed) n)
  refine ⟨h.numbers_nodup hs.numbersDistinct, hpost ▸ hs.distinct, fun n => ?_, ?_⟩
  · rw [hpost, hexists _ (fun _ => id), hs.holds]
  · rw [hpost, hpassed]
    exact hs.passedInFront

theorem State.postPressSound_iff : s.PostPressSound ↔ s.PressLinked ∧ s.PostPressOrdered :=
  ⟨fun h => ⟨h.linked, h.linked.numbersDistinct, h.distinct, h.holds, h.passedInFront⟩,
    fun ⟨hl, h⟩ => ⟨hl, h.distinct, h.holds, h.passedInFront⟩⟩

theorem Change.postPressSound (h : Change c s t) (hs : s.PostPressSound) : t.PostPressSound := by
  obtain ⟨hl, hp⟩ := State.postPressSound_iff.1 hs
  exact State.postPressSound_iff.2 ⟨h.pressLinked hl, h.postPressOrdered hl hp⟩

theorem State.Admits.postPressSound (h : s.Admits u) (hs : s.PostPressSound) : u.PostPressSound := by
  obtain ⟨hl, hp⟩ := State.postPressSound_iff.1 hs
  exact State.postPressSound_iff.2 ⟨h.pressLinked hl, h.postPressOrdered hp⟩

/-- Settles O55: each change moves a volume, its bay, its code and its place in the sequence together. -/
theorem stepsKeepBaysAndMissesLinked : Obligations.StepsKeepBaysAndMissesLinked := by
  unfold Obligations.StepsKeepBaysAndMissesLinked
  refine ⟨fun s t hs h => step_keeps (P := State.MissesSound) (fun _ _ hs h => h.missesSound hs)
      (fun _ _ _ hs h => h.missesSound hs) (fun s hs => ?_) (fun s rest hs => ?_) h hs,
    fun s t hs h => step_keeps (P := State.PostPressSound) (fun _ _ hs h => h.postPressSound hs)
      (fun _ _ _ hs h => h.postPressSound hs) (fun s hs => ?_) (fun s rest hs => ?_) h hs⟩
  · exact { hs with linked := hs.linked.of_same rfl rfl }
  · exact { hs with linked := hs.linked.of_same rfl rfl }
  · exact { hs with linked := hs.linked.of_same rfl rfl }
  · exact { hs with linked := hs.linked.of_same rfl rfl }

end Sys2Proof.Machine

/-! SUPPORT. The gauge arithmetic (file 04), the lookup (R26 to R28), the arbiter's candidates (R107, R108) and the pace
(R147, R156). -/

namespace Sys2Proof.Machine

variable {c : Instr} {s t u : State}

/-! ### Division, dwell, fit and fold -/

/-- R66: the quotient is the nearest whole number, and the even one of two as near. -/
theorem roundHalfEven_spec {x n : Nat} (hn : 0 < n) :
    2 * x ≤ (2 * roundHalfEven x n + 1) * n ∧ (2 * roundHalfEven x n - 1) * n ≤ 2 * x
      ∧ (2 * x = (2 * roundHalfEven x n + 1) * n → roundHalfEven x n % 2 = 0)
      ∧ (2 * x = (2 * roundHalfEven x n - 1) * n → 0 < roundHalfEven x n → roundHalfEven x n % 2 = 0) := by
  have hdiv := Nat.div_add_mod x n
  have hmod := Nat.mod_lt x hn
  unfold roundHalfEven
  dsimp only
  generalize x / n = q at *
  generalize x % n = r at *
  have hodd : (2 * q + 1) * n = 2 * (n * q) + n := by ring
  have hnext : (2 * (q + 1) + 1) * n = 2 * (n * q) + 3 * n := by ring
  have hprev : (2 * q - 1) * n = 2 * (n * q) - n := by rw [Nat.sub_mul]; ring_nf
  have hup : 2 * (q + 1) - 1 = 2 * q + 1 := by omega
  have hzero : q = 0 → n * q = 0 := fun e => by rw [e, Nat.mul_zero]
  have hpos : 0 < q → n ≤ n * q := fun h => Nat.le_mul_of_pos_right n h
  split
  · next h =>
    simp only [Bool.or_eq_true, decide_eq_true_eq, Bool.and_eq_true, beq_iff_eq] at h
    rw [hup, hodd, hnext]
    refine ⟨by omega, by omega, by omega, by omega⟩
  · next h =>
    simp only [Bool.or_eq_true, decide_eq_true_eq, Bool.and_eq_true, beq_iff_eq] at h
    rw [hodd, hprev]
    refine ⟨by omega, by omega, by omega, by omega⟩

/-- Settles O48: R66 for every division, and the clamp of R76 behind the correction of R75. -/
theorem divisionAndDwell : Obligations.DivisionAndDwell := by
  unfold Obligations.DivisionAndDwell
  refine ⟨fun x n hn => roundHalfEven_spec hn, fun base slope tBlk low => ?_⟩
  simp only [dwellOf, dwellClamped, dwellCorrected, dwellRaw]
  generalize (if low = true then _ else _ : Nat) = d
  refine ⟨by omega, by omega, ?_⟩
  split
  · omega
  · split <;> omega

theorem distance_eq_natAbs (a b : Nat) : distance a b = ((a : Int) - b).natAbs := by unfold distance; omega

/-- R103: a group covers a press thickness between its limits, both inclusive. -/
theorem groupHolds_iff (p : Profile) (g : JawGroup) (w : Nat) :
    groupHolds p g w = true ↔ ∃ r, p.jaws[groupIndex g]? = some r ∧ r.least ≤ w ∧ w ≤ r.greatest := by
  unfold groupHolds
  split
  · next h => simp [h]
  · next r h => simp [h]

/-- R56: some bay's group covers the press thickness. -/
theorem jawCovered_iff (p : Profile) (w : Nat) :
    jawCovered p w = true ↔ ∃ g, some g ∈ p.assignment ∧ groupHolds p g w = true := by
  unfold jawCovered
  rw [List.any_eq_true]
  constructor
  · rintro ⟨_ | g, hg, h⟩
    · simp at h
    · exact ⟨g, hg, by simpa using h⟩
  · rintro ⟨g, hg, h⟩
    exact ⟨some g, hg, by simpa using h⟩

/-- R55: the divert mark by its two causes. -/
theorem divertMark_spec (p : Profile) (cls : FitClass) (w : Nat) :
    (divertMark p cls w = some .misfit ↔ cls = .reject) ∧
      (divertMark p cls w = none ↔ cls ≠ .reject ∧ jawCovered p w = true) := by
  unfold divertMark
  split
  · next h => simp [h]
  · next h => cases jawCovered p w <;> simp [h]

theorem convertReading_bounds {raw : Nat} (h : 1 ≤ raw) (h' : raw ≤ 2046) :
    1 ≤ convertReading raw ∧ convertReading raw ≤ 1023 := by
  obtain ⟨-, hlow, -, -⟩ := roundHalfEven_spec (x := raw) (n := 2) (by omega)
  unfold convertReading
  omega

/-- Settles O49: R69 to R73 and R103, case by case. -/
theorem bindPartAndFitClass : Obligations.BindPartAndFitClass := by
  unfold Obligations.BindPartAndFitClass
  refine ⟨fun tBlk tNom => ?_, fun p t raw hraw => ?_, fun p w => ?_⟩
  · simp only [fitClass, distance_eq_natAbs, fitLimit, hardLimit, and_self]
  · obtain ⟨hmisfit, hnone⟩ := divertMark_spec p (bindPart p t raw).fit (bindPart p t raw).wBook
    refine ⟨fun hfailed => ?_, fun hlow hhigh => ?_, rfl, hmisfit, hnone.trans (and_congr_right' (jawCovered_iff ..))⟩
    · have hthick : thickness raw t.tNom = t.tNom := by
        unfold thickness failedReading
        obtain rfl | rfl := hfailed <;> rfl
      refine ⟨hthick, ?_⟩
      simp [bindPart, hthick, fitClass, distance]
    · have hthick : thickness raw t.tNom = convertReading raw := by
        unfold thickness failedReading
        rw [if_neg]
        simp only [Bool.or_eq_true, beq_iff_eq]
        omega
      obtain ⟨hleast, hgreatest⟩ := convertReading_bounds hlow hhigh
      simp only [bindPart, hthick]
      exact ⟨rfl, hleast, hgreatest, trivial⟩
  · exact ⟨groupHolds_iff p .a w, groupHolds_iff p .b w, groupHolds_iff p .c w, groupHolds_iff p .d w⟩

/-- R80, R81: the flaps in terms of the four positions. -/
theorem flapsHold_iff (j : JacketPart) (spacing : Nat) : flapsHold j spacing = true ↔
    (j.minFlap : Int) ≤ (j.centre : Int) - (spacing / 2 : Nat) - j.panel
      ∧ (j.minFlap : Int) ≤ (j.sheet : Int) - ((j.centre : Int) - (spacing / 2 : Nat) + spacing + j.panel) := by
  rw [flapsHold, Bool.and_eq_true]
  exact and_congr decide_eq_true_iff decide_eq_true_iff

/-- Settles O50: the growth check first, then the flaps, then the positions of R80. -/
theorem foldPlanChecksAndPositions : Obligations.FoldPlanChecksAndPositions := by
  unfold Obligations.FoldPlanChecksAndPositions
  intro j tOut spacing
  have hdist : distance spacing j.spine = ((spacing : Int) - j.spine).natAbs := distance_eq_natAbs ..
  have hflaps := flapsHold_iff j spacing
  by_cases hgrowth : j.growth < distance spacing j.spine
  · have e : foldPlan j tOut = .fails .spineGrowth := if_pos hgrowth
    rw [e, ← hdist]
    simp [hgrowth]
  · by_cases hhold : flapsHold j spacing = true
    · have e : foldPlan j tOut = .passes (foldF1 j spacing).toNat (foldF2 j spacing).toNat (foldF3 j spacing).toNat
          (foldF4 j spacing).toNat := (if_neg hgrowth).trans (if_pos hhold)
      have hbounds := hflaps.1 hhold
      rw [e, ← hdist]
      refine ⟨by simpa using hgrowth, by simp, ?_, ?_⟩
      · simp only [reduceCtorEq, false_iff, not_and, not_or, not_lt]
        exact fun _ => hbounds
      · rintro f1 f2 f3 f4 h
        obtain ⟨h1, h2, h3, h4⟩ : _ ∧ _ ∧ _ ∧ _ := by simpa using h
        simp only [foldF1, foldF2, foldF3, foldF4] at h1 h2 h3 h4
        omega
    · have e : foldPlan j tOut = .fails .flapShort := (if_neg hgrowth).trans (if_neg hhold)
      rw [hflaps] at hhold
      rw [e, ← hdist]
      refine ⟨by simpa using hgrowth, by simp, ?_, by simp⟩
      simp only [true_iff]
      omega

/-! ### The lookup -/

/-- R27: the entry that a fold of choices ends with. -/
theorem foldl_moreSpecific_spec (ps : List (RangeEntry × Nat)) (p : RangeEntry × Nat) :
    ps.foldl moreSpecific p ∈ p :: ps ∧ ∀ q ∈ p :: ps, (ps.foldl moreSpecific p).1.sizeClass ≤ q.1.sizeClass := by
  induction ps generalizing p with
  | nil => simp
  | cons q ps ih =>
    obtain ⟨hmem, hleast⟩ := ih (moreSpecific p q)
    have hpick : (moreSpecific p q = p ∨ moreSpecific p q = q)
        ∧ (moreSpecific p q).1.sizeClass ≤ p.1.sizeClass ∧ (moreSpecific p q).1.sizeClass ≤ q.1.sizeClass := by
      unfold moreSpecific
      split
      · exact ⟨.inr rfl, by omega, le_rfl⟩
      · exact ⟨.inl rfl, le_rfl, by omega⟩
    obtain ⟨hpick, hp, hq⟩ := hpick
    have hhead := hleast _ List.mem_cons_self
    refine ⟨?_, fun x hx => ?_⟩
    · rw [List.foldl_cons]
      obtain e | h := List.mem_cons.1 hmem
      · rw [e]
        obtain e | e := hpick <;> rw [e] <;> simp
      · simp [h]
    · rw [List.foldl_cons]
      obtain rfl | hx := List.mem_cons.1 hx
      · exact hhead.trans hp
      · obtain rfl | hx := List.mem_cons.1 hx
        · exact hhead.trans hq
        · exact hleast x (List.mem_cons_of_mem _ hx)

theorem rangeMatches_iff (serial : Nat) (e : RangeEntry) :
    rangeMatches serial e = true ↔ e.enabled = true ∧ serial / 2 ^ e.sizeClass = e.base / 2 ^ e.sizeClass := by
  simp [rangeMatches]

theorem State.rangeFor_eq_none_iff (serial : Nat) :
    s.rangeFor serial = none ↔ ∀ e ∈ s.ranges, rangeMatches serial e ≠ true := by
  have hnil : s.rangeFor serial = none ↔ (s.ranges.zipIdx.filter fun p => rangeMatches serial p.1) = [] := by
    unfold State.rangeFor
    split
    · next h => simp [h]
    · next h => simp [h]
  rw [hnil, List.filter_eq_nil_iff]
  constructor
  · intro h e he
    obtain ⟨i, hi, rfl⟩ := List.getElem_of_mem he
    exact h (s.ranges[i], i) (List.mem_zipIdx_iff_getElem?.2 (List.getElem?_eq_getElem hi))
  · rintro h ⟨e, i⟩ hmem
    exact h e (List.mem_of_getElem? (List.mem_zipIdx_iff_getElem?.1 hmem))

theorem State.rangeFor_eq_some {serial i : Nat} {e : RangeEntry} (h : s.rangeFor serial = some (e, i)) :
    s.ranges[i]? = some e ∧ rangeMatches serial e = true
      ∧ ∀ e' ∈ s.ranges, rangeMatches serial e' = true → e.sizeClass ≤ e'.sizeClass := by
  unfold State.rangeFor at h
  split at h
  · cases h
  · next p ps hfilter =>
    obtain ⟨hmem, hleast⟩ := foldl_moreSpecific_spec ps p
    rw [Option.some.inj h, ← hfilter] at hmem
    obtain ⟨hidx, hmatch⟩ := List.mem_filter.1 hmem
    refine ⟨List.mem_zipIdx_iff_getElem?.1 hidx, hmatch, fun e' he' hmatch' => ?_⟩
    obtain ⟨j, hj, rfl⟩ := List.getElem_of_mem he'
    have := hleast (s.ranges[j], j) (by
      rw [← hfilter]
      exact List.mem_filter.2 ⟨List.mem_zipIdx_iff_getElem?.2 (List.getElem?_eq_getElem hj), hmatch'⟩)
    rwa [Option.some.inj h] at this

/-- R26: the run of an aligned base. -/
theorem div_pow_eq_iff {base serial k : Nat} (h : base % 2 ^ k = 0) :
    serial / 2 ^ k = base / 2 ^ k ↔ base ≤ serial ∧ serial ≤ base + 2 ^ k - 1 := by
  have hpos : 0 < 2 ^ k := Nat.two_pow_pos k
  have hbase := Nat.div_add_mod' base (2 ^ k)
  rw [h, Nat.add_zero] at hbase
  rw [Nat.div_eq_iff hpos, hbase]

/-- Settles O39: R26 and R27 over the fold of the lookup, R28 over one wrap. -/
theorem lookupChoosesMostSpecific : Obligations.LookupChoosesMostSpecific := by
  unfold Obligations.LookupChoosesMostSpecific
  refine ⟨fun s serial => ⟨?_, fun e i h => ?_⟩, fun e serial henabled hk hbase hunit => ⟨?_, fun hmatch => ?_⟩⟩
  · simp only [State.rangeFor_eq_none_iff, ne_eq, rangeMatches_iff]
  · obtain ⟨hidx, hmatch, hleast⟩ := State.rangeFor_eq_some h
    exact ⟨hidx, (rangeMatches_iff ..).1 hmatch, fun e' he' h' => hleast e' he' ((rangeMatches_iff ..).2 h')⟩
  · rw [rangeMatches_iff, div_pow_eq_iff hbase]
    simp [henabled]
  · obtain ⟨hlow, hhigh⟩ := (div_pow_eq_iff hbase).1 ((rangeMatches_iff ..).1 hmatch).2
    have hpow : 2 ^ e.sizeClass ≤ 2 ^ 24 := Nat.pow_le_pow_right (by decide) hk
    unfold unitNumber
    split <;> omega

/-! ### The arbiter's candidates -/

/-- R107, R108: the order in which the arbiter prefers its candidates. -/
def Precedes (p q : Nat × Nat) : Prop := p.1 < q.1 ∨ p.1 = q.1 ∧ p.2 ≤ q.2

theorem Precedes.trans {p q r : Nat × Nat} (h : Precedes p q) (g : Precedes q r) : Precedes p r := by
  unfold Precedes at *; omega

theorem Precedes.antisymm {p q : Nat × Nat} (h : Precedes p q) (g : Precedes q p) : p = q := by
  unfold Precedes at *; exact Prod.ext (by omega) (by omega)

/-- R107: of candidates in bay order, the one that precedes all. -/
theorem foldl_earlier_precedes {cs : List (Nat × Nat)} {c : Nat × Nat}
    (h : (c :: cs).Pairwise fun p q => p.2 < q.2) : ∀ q ∈ c :: cs, Precedes (cs.foldl earlier c) q := by
  induction cs generalizing c with
  | nil => simp [Precedes]
  | cons d cs ih =>
    obtain ⟨hc, hd, hrest⟩ : (∀ q ∈ d :: cs, c.2 < q.2) ∧ (∀ q ∈ cs, d.2 < q.2) ∧ cs.Pairwise fun p q => p.2 < q.2 := by
      simpa using h
    have hcd := hc d List.mem_cons_self
    have hpick : Precedes (earlier c d) c ∧ Precedes (earlier c d) d ∧ ∀ q ∈ cs, (earlier c d).2 < q.2 := by
      unfold earlier Precedes
      split
      · exact ⟨.inl ‹_›, .inr ⟨rfl, le_rfl⟩, hd⟩
      · exact ⟨.inr ⟨rfl, le_rfl⟩, by omega, fun q hq => hc q (List.mem_cons_of_mem _ hq)⟩
    obtain ⟨hpc, hpd, hps⟩ := hpick
    have hleast := ih (c := earlier c d) (List.pairwise_cons.2 ⟨hps, hrest⟩)
    have hhead := hleast _ List.mem_cons_self
    intro q hq
    rw [List.foldl_cons]
    obtain rfl | hq := List.mem_cons.1 hq
    · exact hhead.trans hpc
    · obtain rfl | hq := List.mem_cons.1 hq
      · exact hhead.trans hpd
      · exact hleast q (List.mem_cons_of_mem _ hq)

theorem earliest_precedes {cs : List (Nat × Nat)} {p : Nat × Nat} (h : cs.Pairwise fun p q => p.2 < q.2)
    (hp : earliest cs = some p) : ∀ q ∈ cs, Precedes p q := by
  cases cs with
  | nil => simp
  | cons c cs => exact Option.some.inj hp ▸ foldl_earlier_precedes h

theorem earliest_eq_none_iff (cs : List (Nat × Nat)) : earliest cs = none ↔ cs = [] := by cases cs <;> simp [earliest]

theorem earliest_eq_some {cs : List (Nat × Nat)} {p : Nat × Nat} (h : cs.Pairwise fun p q => p.2 < q.2) (hp : p ∈ cs)
    (hleast : ∀ q ∈ cs, Precedes p q) : earliest cs = some p := by
  obtain ⟨q, hq⟩ : ∃ q, earliest cs = some q := by
    cases cs with
    | nil => simp at hp
    | cons c cs => exact ⟨_, rfl⟩
  rw [hq, (earliest_precedes h hq p hp).antisymm (hleast q (earliest_mem hq))]

/-- R107, R108: candidates read off the bays stand in bay order. -/
theorem pairwise_candidates (bays : List Bay) (f : Bay × Nat → Option (Nat × Nat))
    (hf : ∀ p q, f p = some q → q.2 = p.2) : (bays.zipIdx.filterMap f).Pairwise fun p q => p.2 < q.2 := by
  have hidx : bays.zipIdx.Pairwise fun p q => p.2 < q.2 := by
    refine (List.pairwise_map (f := Prod.snd) (R := (· < ·))).1 ?_
    rw [List.zipIdx_map_snd]
    exact List.pairwise_lt_range'
  exact hidx.filterMap f fun p q hpq x hx y hy => by rw [hf p x hx, hf q y hy]; exact hpq

/-- R107: the DONE bays with their expiry times. -/
theorem State.unloadCandidate_spec {e b : Nat} (h : s.unloadCandidate = some (e, b)) :
    ∃ r, s.bays[b]? = some r ∧ r.state = .done ∧ r.expiry.getD 0 = e ∧
      ∀ i q, s.bays[i]? = some q → q.state = .done → Precedes (e, b) (q.expiry.getD 0, i) := by
  have hpairwise := pairwise_candidates s.bays
    (fun p => if p.1.state = .done then some (p.1.expiry.getD 0, p.2) else none) fun p q hq => by
      split at hq
      · exact Option.some.inj hq ▸ rfl
      · cases hq
  have hleast := earliest_precedes hpairwise h
  obtain ⟨⟨r, i⟩, hmem, hr⟩ := List.mem_filterMap.1 (earliest_mem h)
  have hbay : s.bays[i]? = some r := List.mem_zipIdx_iff_getElem?.1 hmem
  dsimp only at hr
  split at hr
  · next hst =>
    cases hr
    refine ⟨r, hbay, hst, rfl, fun j q hj hq => hleast _ (List.mem_filterMap.2 ⟨(q, j), ?_, if_pos hq⟩)⟩
    exact List.mem_zipIdx_iff_getElem?.2 hj
  · cases hr

theorem State.unloadCandidate_eq_none_iff : s.unloadCandidate = none ↔ ∀ r ∈ s.bays, r.state ≠ .done := by
  unfold State.unloadCandidate
  rw [earliest_eq_none_iff, List.filterMap_eq_nil_iff]
  constructor
  · intro h r hr hst
    obtain ⟨i, hi, rfl⟩ := List.getElem_of_mem hr
    have := h (s.bays[i], i) (List.mem_zipIdx_iff_getElem?.2 (List.getElem?_eq_getElem hi))
    simp [hst] at this
  · rintro h ⟨r, i⟩ hmem
    exact if_neg (h r (List.mem_of_getElem? (List.mem_zipIdx_iff_getElem?.1 hmem)))

/-- R108: a bay that the press thickness fits, VACANT, with the time it was vacated. -/
def State.Fits (s : State) (w b : Nat) : Prop :=
  ∃ r g, s.bays[b]? = some r ∧ r.state = .vacant ∧ s.profile.assignment[b]? = some (some g)
    ∧ groupHolds s.profile g w = true

/-- R108: the time at which a bay was vacated. -/
def State.since (s : State) (b : Nat) : Nat := ((s.bays[b]?).bind Bay.vacated).getD 0

theorem State.fitsBay_iff (w b : Nat) : s.fitsBay w b = true ↔
    ∃ g, s.profile.assignment[b]? = some (some g) ∧ groupHolds s.profile g w = true := by
  unfold State.fitsBay
  split
  · next g h => simp [h]
  · next h =>
    simp only [Bool.false_eq_true, false_iff, not_exists, not_and]
    exact fun g hg => absurd hg (h g)

/-- R108: the bays a press thickness may go to, with their vacated times, in bay order. -/
def State.vacantBays (s : State) (w : Nat) : List (Nat × Nat) :=
  s.bays.zipIdx.filterMap fun p =>
    if p.1.state = .vacant ∧ s.fitsBay w p.2 then some (p.1.vacated.getD 0, p.2) else none

theorem State.vacantBayFor_eq (w : Nat) : s.vacantBayFor w = (earliest (s.vacantBays w)).map Prod.snd := rfl

theorem State.mem_vacantBays (w : Nat) (p : Nat × Nat) :
    p ∈ s.vacantBays w ↔ s.Fits w p.2 ∧ p.1 = s.since p.2 := by
  unfold State.vacantBays
  rw [List.mem_filterMap]
  constructor
  · rintro ⟨⟨r, i⟩, hmem, h⟩
    have hbay : s.bays[i]? = some r := List.mem_zipIdx_iff_getElem?.1 hmem
    dsimp only at h
    split at h
    · next hst =>
      cases h
      obtain ⟨g, hg, hhold⟩ := (State.fitsBay_iff w i).1 hst.2
      exact ⟨⟨r, g, hbay, hst.1, hg, hhold⟩, by simp [State.since, hbay]⟩
    · cases h
  · rintro ⟨⟨r, g, hbay, hst, hg, hhold⟩, hsince⟩
    refine ⟨(r, p.2), List.mem_zipIdx_iff_getElem?.2 hbay, ?_⟩
    rw [if_pos ⟨hst, (State.fitsBay_iff w p.2).2 ⟨g, hg, hhold⟩⟩]
    exact congrArg some (Prod.ext (by simpa [State.since, hbay] using hsince.symm) rfl)

theorem State.vacantBayFor_eq_none {w : Nat} (h : ∀ b, ¬ s.Fits w b) : s.vacantBayFor w = none := by
  rw [State.vacantBayFor_eq, Option.map_eq_none_iff, earliest_eq_none_iff, List.eq_nil_iff_forall_not_mem]
  exact fun p hp => h _ ((State.mem_vacantBays w p).1 hp).1

theorem State.vacantBayFor_eq_some {w b : Nat} (hfit : s.Fits w b)
    (hleast : ∀ i, s.Fits w i → Precedes (s.since b, b) (s.since i, i)) : s.vacantBayFor w = some b := by
  have hpairwise : (s.vacantBays w).Pairwise fun p q => p.2 < q.2 := pairwise_candidates s.bays _ fun p q hq => by
    split at hq
    · exact Option.some.inj hq ▸ rfl
    · cases hq
  rw [State.vacantBayFor_eq, earliest_eq_some hpairwise (p := (s.since b, b))
    ((State.mem_vacantBays w _).2 ⟨hfit, rfl⟩) fun q hq => ?_]
  · rfl
  · obtain ⟨hq, e⟩ := (State.mem_vacantBays w q).1 hq
    exact (Prod.ext e rfl : q = (s.since q.2, q.2)) ▸ hleast q.2 hq

/-- R108: the load candidate outside STOP. -/
theorem State.loadCandidate_of_front (hpace : s.governor.effective ≠ .stop) {v : Volume} {p : BindPart}
    (hfront : s.shuttleFront = some v) (hbound : v.bound = some p) :
    s.loadCandidate = (s.vacantBayFor p.wBook).map fun b => (v, b) := by
  simp [State.loadCandidate, hpace, hfront, hbound]

/-- Settles O27: R107 and R108 through the one that precedes all. -/
theorem arbiterCandidates : Obligations.ArbiterCandidates := by
  unfold Obligations.ArbiterCandidates
  intro s
  refine ⟨State.unloadCandidate_eq_none_iff, fun e b h => ?_, fun hstop => if_pos hstop, fun hpace hnone => ?_,
    fun v p hpace hfront hbound => ⟨fun h => ?_, fun b hfit hleast => ?_⟩⟩
  · exact State.unloadCandidate_spec h
  · have hfront : s.shuttleFront = none := hnone
    simp [State.loadCandidate, hpace, hfront]
  · rw [State.loadCandidate_of_front hpace hfront hbound, State.vacantBayFor_eq_none h]
    rfl
  · rw [State.loadCandidate_of_front hpace hfront hbound, State.vacantBayFor_eq_some hfit hleast]
    rfl

/-! ### The pace -/

theorem State.repaceReleasing_eq :
    s.repaceReleasing = s.repace.release s.governor.effective s.lowestPace := by
  rw [State.repaceReleasing, State.repace_governor]

theorem State.repace_of_ne (h : s.lowestPace ≠ s.governor.effective) :
    s.repace = State.raise .pace { s with governor := { s.governor with effective := s.lowestPace } } := if_neg h

theorem State.repace_of_eq (h : s.lowestPace = s.governor.effective) : s.repace = s := if_pos h

/-- R156: without a rise out of HOLD or STOP nothing is released. -/
theorem State.release_of_rank {old new : Pace} (h : 3 ≤ paceRank old ∨ paceRank new ≤ paceRank old) :
    s.release old new = s := by
  unfold State.release
  cases old <;> cases new <;> simp_all [paceRank]

theorem State.repaceReleasing_of_eq (h : s.lowestPace = s.governor.effective) : s.repaceReleasing = s := by
  rw [State.repaceReleasing_eq, h, State.release_of_rank (.inr le_rfl), State.repace_of_eq h]

theorem State.release_from_hold {new : Pace} (h : 3 ≤ paceRank new) :
    s.release .hold new = s.reevaluate Query.isCaseCall := by
  simp [State.release, paceRank] at h ⊢
  omega

theorem State.release_from_stop {new : Pace} (h : 3 ≤ paceRank new) : s.release .stop new =
    ((s.reevaluate Query.isCaseCall).reevaluate Query.isNextMove).reevaluate Query.isFoldCall := by
  cases new <;> simp_all [State.release, paceRank]

/-- R147: the lower of two classes, by rank. -/
theorem lowerPace_spec (a b : Pace) : (lowerPace a b = a ∨ lowerPace a b = b)
    ∧ paceRank (lowerPace a b) ≤ paceRank a ∧ paceRank (lowerPace a b) ≤ paceRank b := by
  unfold lowerPace
  split
  · exact ⟨.inl rfl, le_rfl, ‹_›⟩
  · exact ⟨.inr rfl, by omega, le_rfl⟩

theorem foldl_lowerPace_spec (ps : List Pace) (p : Pace) :
    ps.foldl lowerPace p ∈ p :: ps ∧ ∀ q ∈ p :: ps, paceRank (ps.foldl lowerPace p) ≤ paceRank q := by
  induction ps generalizing p with
  | nil => simp
  | cons q ps ih =>
    obtain ⟨hmem, hleast⟩ := ih (lowerPace p q)
    obtain ⟨hpick, hp, hq⟩ := lowerPace_spec p q
    have hhead := hleast _ List.mem_cons_self
    refine ⟨?_, fun x hx => ?_⟩
    · rw [List.foldl_cons]
      obtain e | h := List.mem_cons.1 hmem
      · rw [e]
        obtain e | e := hpick <;> rw [e] <;> simp
      · simp [h]
    · rw [List.foldl_cons]
      obtain rfl | hx := List.mem_cons.1 hx
      · exact hhead.trans hp
      · obtain rfl | hx := List.mem_cons.1 hx
        · exact hhead.trans hq
        · exact hleast x (List.mem_cons_of_mem _ hx)

/-- R147: the lowest pace is one of its inputs, and none is lower. -/
theorem State.lowestPace_spec :
    (s.lowestPace = s.governor.requested ∨ s.lowestPace = s.governor.stepDown
        ∨ ∃ k, s.ceilingStands k = true ∧ s.lowestPace = ceilingPace k)
      ∧ paceRank s.lowestPace ≤ paceRank s.governor.requested ∧ paceRank s.lowestPace ≤ paceRank s.governor.stepDown
      ∧ ∀ k, s.ceilingStands k = true → paceRank s.lowestPace ≤ paceRank (ceilingPace k) := by
  obtain ⟨hmem, hleast⟩ := foldl_lowerPace_spec ((allCauses.filter s.ceilingStands).map ceilingPace)
    (lowerPace s.governor.requested s.governor.stepDown)
  obtain ⟨hpick, hreq, hstep⟩ := lowerPace_spec s.governor.requested s.governor.stepDown
  have hhead := hleast _ List.mem_cons_self
  refine ⟨?_, hhead.trans hreq, hhead.trans hstep, fun k hk => hleast _ (List.mem_cons_of_mem _ (List.mem_map.2
    ⟨k, List.mem_filter.2 ⟨by cases k <;> decide, hk⟩, rfl⟩))⟩
  obtain e | h := List.mem_cons.1 hmem
  · unfold State.lowestPace
    rw [e]
    exact hpick.imp_right .inl
  · obtain ⟨k, hk, e⟩ := List.mem_map.1 h
    exact .inr (.inr ⟨k, (List.mem_filter.1 hk).2, e.symm⟩)

/-- Settles O34: R156 by the class the pace rises from, and R147 over the inputs. -/
theorem paceIsLowestInput : Obligations.PaceIsLowestInput := by
  unfold Obligations.PaceIsLowestInput
  refine ⟨fun s => ?_, fun s => ?_⟩
  · refine ⟨fun h => ⟨State.repace_of_eq h, State.repaceReleasing_of_eq h⟩, State.repace_of_ne, fun _ hfall => ?_,
      fun hold h => ?_, fun hold h => ?_, fun hold h => ?_, fun h => ?_⟩ <;> rw [State.repaceReleasing_eq]
    · exact State.release_of_rank (.inr hfall.le)
    · rw [hold]; exact State.release_from_hold h
    · rw [hold, h]; rfl
    · rw [hold]; exact State.release_from_stop h
    · exact State.release_of_rank (.inl h)
  · obtain ⟨hinput, hreq, hstep, hceiling⟩ := s.lowestPace_spec
    refine ⟨hreq, hstep, fun p hp hstands => ?_, hinput.imp_right (.imp_right ?_)⟩
    · simp only [List.mem_cons, List.not_mem_nil, or_false] at hp
      obtain rfl | rfl | rfl | rfl | rfl | rfl | rfl := hp
      · exact hceiling .guard hstands
      · exact hceiling .coldPlatens hstands
      · exact hceiling .glue hstands
      · exact hceiling .lowPlatens hstands
      · exact hceiling .vacantBays hstands
      · exact hceiling .fill hstands
      · exact hceiling .recovery hstands
    · rintro ⟨k, hk, e⟩
      have hpair : (true, s.lowestPace) = (s.ceilingStands k, ceilingPace k) := by rw [hk, e]
      rw [hpair]
      cases k with
      | guard => exact List.mem_of_getElem? (i := 0) rfl
      | coldPlatens => exact List.mem_of_getElem? (i := 1) rfl
      | glue => exact List.mem_of_getElem? (i := 2) rfl
      | lowPlatens => exact List.mem_of_getElem? (i := 3) rfl
      | vacantBays => exact List.mem_of_getElem? (i := 4) rfl
      | fill => exact List.mem_of_getElem? (i := 5) rfl
      | recovery => exact List.mem_of_getElem? (i := 6) rfl

end Sys2Proof.Machine

/-! SUPPORT. Frames that a port takes, refuses or turns away (R165, R167, R168, R170, R175, R176, R179), and the parts of
an answer (R172). -/

namespace Sys2Proof.Machine

variable {s : State}

/-! ### Answers made at the arrival of a frame -/

theorem State.immediately_of_free {l : Line} (h : s.Free l) (k : State → State × Answer) :
    s.immediately l k = (k s).1.pushAnswer l (k s).2 false := by
  unfold State.immediately
  rw [show s.immediatePending l = false from h]
  rfl

theorem State.immediately_of_not_free {l : Line} (h : ¬ s.Free l) (k : State → State × Answer) :
    s.immediately l k = s := by
  unfold State.immediately
  rw [if_pos (by simpa [State.Free] using h)]

theorem State.receive_of_loading (h : s.phase = .loading) (l : Line) (k : Kind) (body : State → State) :
    s.receive l k body = s := by
  unfold State.receive
  rw [if_pos h]

theorem State.receive_of_hears {l : Line} {k : Kind} (h : s.Hears l k) (body : State → State) :
    s.receive l k body = body s := by
  obtain ⟨hphase, hrole⟩ := h
  unfold State.receive
  rw [if_neg (by simp [hphase]), if_pos hrole]

theorem State.receive_of_role {l : Line} {k : Kind} (hphase : s.phase = .running) (h : kindOwner k ≠ some (s.roleOf l))
    (body : State → State) : s.receive l k body = s.immediately l fun s => (s, refuse k .role) := by
  unfold State.receive
  rw [if_neg (by simp [hphase]), if_neg h]

/-! ### Station messages -/

/-- What a station message does on a line of the role that owns its kind. -/
def stationBody : Instr → State → State
  | .caseSeen l t n => State.postReport l .caseSeen (goodCaseTag t n) (.caseSeen ⟨t, n⟩)
  | .cased l v => State.postReport l .cased (goodVolumeNumber v) (.cased v)
  | .caseSpoiled l v => State.postReport l .caseSpoiled (goodVolumeNumber v) (.caseSpoiled v)
  | .bayClosed l b => State.postReport l .bayClosed (goodBayNumber b) (.bayClosed b)
  | .bayCleared l b => State.postReport l .bayCleared (goodBayNumber b) (.bayCleared b)
  | .bayFault l b => State.postReport l .bayFault (goodBayNumber b) (.bayFault b)
  | .jacketSeen l t u => State.postReport l .jacketSeen (goodJacketTag t) (.jacketSeen ⟨t, u⟩)
  | .delivered l v => State.postReport l .delivered (goodVolumeNumber v) (.delivered v)
  | .entry l n r => State.checked l .entry (goodRaw r) (State.takeEntry l n r)
  | .caseCall l => fun s => s.takeQuery l .caseCall .caseCall (s.postedBy l)
  | .nextMove l => fun s => s.takeQuery l .nextMove .nextMove (s.postedBy l)
  | .gauge l g t n r => State.checked l .gauge (goodGauge g t n r) fun s =>
      s.takeQuery l .gauge (.gauge (gaugeTag g t n) r) 0
  | .foldCall l => fun s => s.takeQuery l .foldCall .foldCall (s.postedBy l)
  | _ => id

theorem exec_station {i : Instr} {l : Line} {k : Kind} {body : List Byte}
    (h : messageOf i = some ⟨.station l, k, body⟩) (s : State) : exec i s = .next (s.receive l k (stationBody i)) := by
  cases i with
  | rangeRead q => cases q <;> cases h
  | bayRead q => cases q <;> cases h
  | caseSeen | cased | caseSpoiled | bayClosed | bayCleared | bayFault | jacketSeen | delivered | entry | caseCall
  | nextMove | gauge | foldCall => cases h; rfl
  | _ => cases h

theorem goodVolumeNumber_eq (v : Nat) : goodVolumeNumber v = decide (v ≤ 63) :=
  decide_eq_decide.2 (by simp only [Config.volumeSlots]; omega)

theorem goodBayNumber_eq (b : Nat) : goodBayNumber b = decide (b ≤ 15) :=
  decide_eq_decide.2 (by simp only [Config.bayCount]; omega)

theorem goodGauge_eq (l : Line) (g t n r : Nat) : goodGauge g t n r = goodForm (.gauge l g t n r) := by
  rw [Bool.eq_iff_iff]
  simp only [goodGauge, goodRaw, goodCaseTag, goodForm, Bool.and_eq_true, Bool.or_eq_true, decide_eq_true_eq, and_assoc]
  rfl

/-- The form check of the owning rule comes before anything else. -/
theorem stationBody_of_bad {i : Instr} {l : Line} {k : Kind} {body : List Byte}
    (h : messageOf i = some ⟨.station l, k, body⟩) (hbad : goodForm i = false) (s : State) :
    stationBody i s = s.immediately l fun s => (s, refuse k .form) := by
  have hpost (good : Bool) (r : Report) (hgood : good = false) :
      State.postReport l k good r s = s.immediately l fun s => (s, refuse k .form) := by
    simp [State.postReport, hgood]
  have hcheck (good : Bool) (f : State → State) (hgood : good = false) :
      State.checked l k good f s = s.immediately l fun s => (s, refuse k .form) := by
    simp [State.checked, hgood]
  cases i with
  | rangeRead q => cases q <;> cases h
  | bayRead q => cases q <;> cases h
  | caseSeen | jacketSeen => cases h; exact hpost _ _ hbad
  | cased | caseSpoiled | delivered => cases h; exact hpost _ _ ((goodVolumeNumber_eq _).trans hbad)
  | bayClosed | bayCleared | bayFault => cases h; exact hpost _ _ ((goodBayNumber_eq _).trans hbad)
  | entry => cases h; exact hcheck _ _ hbad
  | gauge => cases h; exact hcheck _ _ ((goodGauge_eq ..).trans hbad)
  | caseCall | nextMove | foldCall => cases hbad
  | _ => cases h

/-- Settles O15, check by check. -/
theorem stationMessagesTurnedAway : Obligations.StationMessagesTurnedAway := by
  unfold Obligations.StationMessagesTurnedAway
  intro i l k body s h
  rw [exec_station h]
  refine ⟨fun hphase => by rw [State.receive_of_loading hphase], fun hphase hrole => ?_, fun hhears hbad => ?_⟩
  · rw [State.receive_of_role hphase hrole]
    exact ⟨fun hfree => by rw [State.immediately_of_free hfree]; rfl,
      fun hfree => by rw [State.immediately_of_not_free hfree]⟩
  · rw [State.receive_of_hears hhears, stationBody_of_bad h hbad]
    exact ⟨fun hfree => by rw [State.immediately_of_free hfree]; rfl,
      fun hfree => by rw [State.immediately_of_not_free hfree]⟩

/-! ### Reports and queries -/

theorem exec_report {i : Instr} {l : Line} {k : Kind} {r : Report} (h : reportOf i = some (l, k, r))
    (hgood : goodForm i = true) (hhears : s.Hears l k) : exec i s = .next (s.postReport l k true r) := by
  have hbody (good : Bool) (r : Report) (hg : good = true) :
      (Host.Outcome.next (s.receive l k (State.postReport l k good r)) : Result) = .next (s.postReport l k true r) := by
    rw [State.receive_of_hears hhears, hg]
  cases i with
  | caseSeen | jacketSeen => cases h; exact hbody _ _ hgood
  | cased | caseSpoiled | delivered => cases h; exact hbody _ _ ((goodVolumeNumber_eq _).trans hgood)
  | bayClosed | bayCleared | bayFault => cases h; exact hbody _ _ ((goodBayNumber_eq _).trans hgood)
  | _ => cases h

theorem exec_query {i : Instr} {l : Line} {k : Kind} (h : queryOf i = some (l, k)) (hgood : goodForm i = true)
    (hhears : s.Hears l k) (hslot : (s.station l).slot ≠ .empty) :
    exec i s = .next (s.immediately l fun s => (s, busyAnswer k)) := by
  have htake (q : Query) (n : Nat) : s.takeQuery l k q n = s.immediately l fun s => (s, busyAnswer k) := by
    unfold State.takeQuery
    split
    · next e => exact absurd e hslot
    · rfl
  have hquery (q : Query) (n : Nat) : (Host.Outcome.next (s.receive l k fun s => s.takeQuery l k q (s.postedBy l)) : Result)
      = .next (s.immediately l fun s => (s, busyAnswer k)) := by
    rw [State.receive_of_hears hhears, htake]
  have hchecked (good : Bool) (f : State → State) (hg : good = true)
      (hf : f s = s.immediately l fun s => (s, busyAnswer k)) :
      (Host.Outcome.next (s.receive l k (State.checked l k good f)) : Result)
        = .next (s.immediately l fun s => (s, busyAnswer k)) := by
    rw [State.receive_of_hears hhears, hg]
    exact congrArg Host.Outcome.next hf
  cases i with
  | entry l n r =>
    cases h
    refine hchecked (goodRaw r) (State.takeEntry l n r) hgood ?_
    unfold State.takeEntry
    split
    · next e => exact absurd e hslot
    · rfl
  | caseCall | nextMove | foldCall => cases h; exact hquery _ 0
  | gauge l g t n r =>
    cases h
    exact hchecked (goodGauge g t n r) (fun s => s.takeQuery l .gauge (.gauge (gaugeTag g t n) r) 0)
      ((goodGauge_eq l g t n r).trans hgood) (htake _ _)
  | _ => cases h

/-- R170: a query behind reports of its line. -/
theorem State.takeQuery_behind {l : Line} (hslot : (s.station l).slot = .empty) (h : 0 < s.postedBy l) (k : Kind)
    (q : Query) : s.takeQuery l k q (s.postedBy l)
      = s.setSlot l (.behind ⟨q, s.clock, s.profile.holdLimit⟩ (s.postedBy l)) := by
  unfold State.takeQuery
  rw [hslot]
  exact if_neg (by omega)

/-- Settles O16: R168 by the room in the queue, R170 by the slot. -/
theorem reportsAndQueriesArrive : Obligations.ReportsAndQueriesArrive := by
  unfold Obligations.ReportsAndQueriesArrive
  refine ⟨fun i l k r s h hgood hhears => ?_, fun i l k s h hgood hhears hslot => ?_, fun l s hslot hposted => ?_⟩
  · rw [exec_report h hgood hhears]
    unfold State.postReport
    refine ⟨fun hfree hroom => ?_, fun hfree hfull => ?_, fun hfree => by rw [State.immediately_of_not_free hfree]⟩
    · rw [State.immediately_of_free hfree]
      simp [Config.reportQueueSize, hroom, acceptedAnswer]
    · rw [State.immediately_of_free hfree]
      simp [Config.reportQueueSize, Nat.not_lt.2 hfull, busyAnswer]
  · rw [exec_query h hgood hhears hslot]
    exact ⟨fun hfree => by rw [State.immediately_of_free hfree]; rfl,
      fun hfree => by rw [State.immediately_of_not_free hfree]⟩
  · have hquery (k : Kind) (q : Query) (hhears : s.Hears l k) :
        (Host.Outcome.next (s.receive l k fun s => s.takeQuery l k q (s.postedBy l)) : Result)
          = .next (s.setSlot l (.behind ⟨q, s.clock, s.profile.holdLimit⟩ (s.postedBy l))) := by
      rw [State.receive_of_hears hhears, State.takeQuery_behind hslot hposted]
    exact ⟨hquery .caseCall .caseCall, hquery .nextMove .nextMove, hquery .foldCall .foldCall⟩

/-! ### Supervisor requests -/

theorem exec_supervisor {i : Instr} {m : Message} (h : messageOf i = some m) (hport : m.port = .supervisor) (s : State) :
    ∃ k, exec i s = .next (s.request k) := by
  cases i with
  | caseSeen | cased | caseSpoiled | bayClosed | bayCleared | bayFault | jacketSeen | delivered | entry | caseCall
  | nextMove | gauge | foldCall => cases h; cases hport
  | rangeRead | bayRead | titleLoad | titleAmend | titleHold | titleFree | titleRetire | titlePurge | titleRead
  | missRead | rangeSet | rangeClear | volumeRead | volumeFind | volumeWriteoff | bayService | paceSet | paceRelease
  | statusRead | noticeEnable | noticeClear | noticeRead | profileSet | profileRead | profileSave | lineClear =>
    exact ⟨_, rfl⟩
  | _ => cases h

/-- R175, R179: the state byte alone answers a write that meets an occupied slot or the load. -/
theorem State.request_of_busy (h : s.phase = .loading ∨ s.supervisor.slot ≠ .empty) (k : State → State × Answer) :
    s.request k = s.shiftOut s.stateByte := by
  obtain ⟨-, e⟩ | ⟨hphase, hslot, -⟩ | ⟨-, -, e⟩ := s.request_cases k
  · exact e
  · exact absurd h (by simp [hphase, hslot])
  · exact e

theorem State.stateByte_of_loading (h : s.phase = .loading) : s.stateByte = [0x01#8] := by
  simp [State.stateByte, h, le]

theorem State.stateByte_of_running (h : s.phase = .running) : s.stateByte = match s.supervisor.slot with
    | .empty => [0x00#8]
    | .working => [0x01#8]
    | .holding _ _ => [0x02#8] := by
  unfold State.stateByte
  rw [if_neg (by simp [h])]
  cases s.supervisor.slot <;> rfl

/-- Settles O14: R175 by the slot, R179 while loading. -/
theorem requestsMeetBusySlot : Obligations.RequestsMeetBusySlot := by
  unfold Obligations.RequestsMeetBusySlot
  intro i m s h hport
  obtain ⟨k, e⟩ := exec_supervisor h hport s
  rw [e]
  refine ⟨fun hphase hslot => ?_, fun a n hphase hslot => ?_, fun hphase => ?_⟩
  · rw [State.request_of_busy (.inr (by simp [hslot])), State.stateByte_of_running hphase, hslot, State.shiftOut]
    simp [hslot]
  · rw [State.request_of_busy (.inr (by simp [hslot])), State.stateByte_of_running hphase, hslot, State.shiftOut]
    simp [hslot]
  · rw [State.request_of_busy (.inl hphase), State.stateByte_of_loading hphase, State.shiftOut]

/-! ### The parts of an answer -/

theorem flatMap_range_chunks {α : Type} (k : Nat) (l : List α) (n : Nat) :
    (List.range n).flatMap (fun i => (l.drop (k * i)).take k) = l.take (k * n) := by
  induction n with
  | zero => simp
  | succ n ih => rw [List.range_succ, List.flatMap_append, ih, Nat.mul_succ, List.take_add]; simp

/-- R172: the parts are enough for the fields, and all but the last are full. -/
theorem partCount_spec (a : Answer) : 0 < partCount a ∧ a.fields.length ≤ 34 * partCount a
    ∧ ∀ i, i + 1 < partCount a → 34 * i + 34 ≤ a.fields.length := by
  unfold partCount fieldsPerPart
  refine ⟨by omega, by omega, fun i hi => by omega⟩

theorem partBody_split (a : Answer) (i : Nat) :
    partBody a i = [BitVec.ofNat 8 a.kind, BitVec.ofNat 8 (codeByte a.code), BitVec.ofNat 8 (reasonByte a.reason),
      BitVec.ofNat 8 (if i + 1 = partCount a then i + 128 else i)] ++ (a.fields.drop (34 * i)).take 34 := by
  unfold partBody fieldsPerPart
  split <;> simp [le]

/-- Settles O13: the chunks of 34 fields one after another, each behind its header. -/
theorem answerPartsCarryFields : Obligations.AnswerPartsCarryFields := by
  unfold Obligations.AnswerPartsCarryFields
  refine ⟨fun a => ?_, fun c => by cases c <;> rfl, rfl, fun r => by cases r <;> rfl⟩
  obtain ⟨-, henough, hfull⟩ := partCount_spec a
  have hdrop (i : Nat) : (partBody a i).drop 4 = (a.fields.drop (34 * i)).take 34 := by
    rw [partBody_split]
    exact List.drop_left' rfl
  have hlen (i : Nat) : (partBody a i).length = 4 + min 34 (a.fields.length - 34 * i) := by
    rw [partBody_split, List.length_append, List.length_take, List.length_drop]
    rfl
  refine ⟨?_, fun i hi => ⟨by rw [hlen]; omega, fun hmore => ?_, ?_⟩⟩
  · simp only [hdrop]
    rw [flatMap_range_chunks, List.take_of_length_le henough]
  · have := hfull i hmore
    rw [hlen]
    omega
  · rw [partBody_split]
    exact List.take_left' rfl

end Sys2Proof.Machine

/-! SUPPORT. The step, the device reset and the profile load (R36, R102, R160, R179, R186), and the soundness of the
state at power-on. -/

namespace Sys2Proof.Machine

variable {s : State}

/-- Settles O1. -/
theorem stepRunsFrontCommand : Obligations.StepRunsFrontCommand := by
  unfold Obligations.StepRunsFrontCommand
  intro c rest s h
  unfold step
  rw [h]

/-- Settles O2. -/
theorem idleStepTicksClock : Obligations.IdleStepTicksClock := by
  unfold Obligations.IdleStepTicksClock
  intro s h
  simp [step, h, State.tick]

/-! ### DEVICE_RESET -/

theorem storeAfterReset_of_idle (h : s.profileStatus.writing = false) : storeAfterReset s = s.store := by
  simp [storeAfterReset, h]

theorem storeAfterReset_marker_of_writing (h : s.profileStatus.writing = true) :
    (storeAfterReset s).marker = 0x00#8 := by
  simp [storeAfterReset, h, invalidMarker]

/-- Settles O4: every block at its reset value by the definition, the store by whether a save was going on. -/
theorem deviceResetClearsEveryBlock : Obligations.DeviceResetClearsEveryBlock := by
  unfold Obligations.DeviceResetClearsEveryBlock
  refine fun s => ⟨_, rfl, rfl, rfl, rfl, rfl, rfl, rfl, rfl, rfl, rfl, rfl, rfl, rfl, rfl, rfl, rfl, rfl, rfl, ?_, ?_,
    rfl, rfl, rfl, fun h => ⟨storeAfterReset_of_idle h, if_neg (by simp [h])⟩, fun h => ?_, rfl⟩
  · simp [State.attention, State.reset]
  · simp [State.conditions, State.reset, State.anyFaulted, State.anyMissing, State.anyLatch, Governor.reset, Bay.reset]
  · change (storeAfterReset s).marker ≠ _
    rw [storeAfterReset_marker_of_writing h]
    decide

/-! ### PROFILE_LOAD -/

/-- R157: the pace computed anew moves the effective pace and the notices. -/
theorem State.repace_eq_raised (s : State) : ∃ n : NoticeUnit, s.notices.Raised n
    ∧ s.repace = { s with governor := { s.governor with effective := s.lowestPace }, notices := n } := by
  obtain ⟨h, e⟩ | ⟨-, e⟩ := s.repace_cases
  · exact ⟨s.notices, .refl _, by rw [e, h]⟩
  · exact ⟨_, State.raised_raise .pace, e⟩

/-- R160: the latches and the recovery cycle after the first reading of the lines. -/
theorem State.firstReading_governor (s : State) : s.firstReading.governor = { s.governor with
    guardLatch := s.governor.guardLatch || s.governor.lines.guardOpen
    glueLatch := s.governor.glueLatch || (!s.governor.lines.glueReady && s.profile.glueLatch)
    recovery := if s.governor.lines.platenLow && s.profile.cycling
      then .slow (s.clock + s.profile.slowPeriod * 1000) else s.governor.recovery } := by
  have hguard (u : State) : (if u.governor.lines.guardOpen then u.guardOnset else u).governor
      = { u.governor with guardLatch := u.governor.guardLatch || u.governor.lines.guardOpen } := by
    split <;> simp_all [State.guardOnset, State.setGuardLatch]
  have hglue (u : State) : (if u.governor.lines.glueReady then u else u.glueOnset).governor
      = { u.governor with glueLatch := u.governor.glueLatch || (!u.governor.lines.glueReady && u.profile.glueLatch) } := by
    unfold State.glueOnset
    split <;> [skip; split] <;> simp_all [State.setGlueLatch]
  have hplaten (u : State) : (if u.governor.lines.platenLow then u.platenLowOnset else u).governor
      = { u.governor with
          recovery := if u.governor.lines.platenLow && u.profile.cycling
            then .slow (u.clock + u.profile.slowPeriod * 1000) else u.governor.recovery } := by
    unfold State.platenLowOnset
    split <;> [split; skip] <;> simp_all [State.startSlow]
  have hprofile : (if s.governor.lines.guardOpen then s.guardOnset else s).profile = s.profile := by
    split <;> simp [State.guardOnset]
  have hclock : (if s.governor.lines.guardOpen then s.guardOnset else s).clock = s.clock := by
    split <;> simp [State.guardOnset]
  have hglueProfile (u : State) : (if u.governor.lines.glueReady then u else u.glueOnset).profile = u.profile := by
    unfold State.glueOnset
    split <;> [skip; split] <;> simp
  have hglueClock (u : State) : (if u.governor.lines.glueReady then u else u.glueOnset).clock = u.clock := by
    unfold State.glueOnset
    split <;> [skip; split] <;> simp
  unfold State.firstReading
  dsimp only
  rw [hplaten, hglue, hglueProfile, hglueClock, hguard, hprofile, hclock]

/-- R186: what the load leaves, from the profile, the status and the notices it took up. -/
theorem exec_profileLoad_of_loading (h : s.phase = .loading) (a : Bool) : ∃ n : NoticeUnit, s.notices.Raised n
    ∧ exec (.profileLoad a) s = .next (State.repace (State.firstReading { s with
        phase := .running, profile := (loadProfile s.store a).1
        profileStatus := ⟨(loadProfile s.store a).2.1, (loadProfile s.store a).2.2, .idle, .none⟩
        notices := n })) := by
  change ∃ n, _ ∧ execProfileLoad a s = _
  unfold execProfileLoad
  rw [if_neg (by simp [h])]
  dsimp only
  split
  · exact ⟨_, State.raised_raise .profile, rfl⟩
  · exact ⟨s.notices, .refl _, rfl⟩

theorem loadProfile_of_invalid {store : Store} (h : store.marker ≠ 0x5A#8) :
    loadProfile store true = (Profile.default, .defaults, 43) := if_neg h

theorem loadProfile_of_valid {store : Store} (h : store.marker = 0x5A#8) :
    loadProfile store true = (profileFromCopy store.copy, .stored, defaultedFields store.copy) := if_pos h

/-- Settles O5: the profile and its status by the store, then the first reading and the pace. -/
theorem profileLoadTakesUpProfile : Obligations.ProfileLoadTakesUpProfile := by
  unfold Obligations.ProfileLoadTakesUpProfile
  intro s ack h
  obtain ⟨n, hn, e⟩ := exec_profileLoad_of_loading h ack
  have hg := State.firstReading_governor { s with
    phase := .running, profile := (loadProfile s.store ack).1
    profileStatus := ⟨(loadProfile s.store ack).2.1, (loadProfile s.store ack).2.2, .idle, .none⟩, notices := n }
  obtain ⟨g, n', e', -, -, -, hn'⟩ := State.firstReading_eq (s := { s with
    phase := .running, profile := (loadProfile s.store ack).1
    profileStatus := ⟨(loadProfile s.store ack).2.1, (loadProfile s.store ack).2.2, .idle, .none⟩, notices := n })
  rw [e'] at hg e
  obtain ⟨m, hm, e''⟩ := State.repace_eq_raised { s with
    phase := .running, profile := (loadProfile s.store ack).1
    profileStatus := ⟨(loadProfile s.store ack).2.1, (loadProfile s.store ack).2.2, .idle, .none⟩
    governor := g, notices := n' }
  have hnotices : s.notices.Raised m := (hn.trans hn').trans hm
  refine ⟨_, e, ?_⟩
  rw [e'']
  refine ⟨?_, ?_, ?_, ?_, hnotices.1, ?_, rfl⟩
  · rintro rfl
    exact ⟨rfl, rfl⟩
  · rintro rfl hmark
    simp [loadProfile_of_invalid hmark]
  · rintro rfl hmark
    simp [loadProfile_of_valid hmark]
  · dsimp only at hg ⊢
    rw [hg]
    congr 1
  · intro hzero
    obtain ⟨-, x, hx⟩ := hnotices
    simp [hx, hzero]

/-! ### The state at power-on -/

theorem reset_pressLinked : State.reset.PressLinked :=
  .of_empty rfl fun r hr => by rw [List.eq_of_mem_replicate hr]; exact ⟨rfl, rfl⟩

/-- Settles O51: the tables are empty, and the lowest pace of a STOP request is STOP. -/
theorem resetIsSound : Obligations.ResetIsSound := by
  unfold Obligations.ResetIsSound
  have hnone {P : Volume → Prop} : ∀ v ∈ State.reset.volumes, P v := fun v hv => by cases hv
  refine ⟨?_, .of_empty rfl rfl, ?_, ?_, ?_, hnone, ⟨List.nodup_nil, List.nodup_nil⟩,
    ⟨(State.lowestPace_of_stop rfl).symm, fun _ => rfl⟩, default_isLegal, fun h => by cases h⟩
  · constructor <;> simp [State.reset, Config.rangeEntries, Config.bayCount]
  · refine ⟨fun e he hon => ?_, ?_⟩
    · rw [List.eq_of_mem_replicate he] at hon
      cases hon
    · refine List.pairwise_replicate.2 (.inr fun hon => ?_)
      cases hon
  · exact ⟨reset_pressLinked, hnone, List.nodup_nil, fun c (hc : c ∈ []) => (by cases hc),
      fun c (hc : c ∈ []) => (by cases hc), hnone⟩
  · exact ⟨reset_pressLinked, List.nodup_nil, fun n => by simp [State.reset], .nil⟩

end Sys2Proof.Machine

/-! SUPPORT. What the evaluation of a query leaves of the supervisor port and of the requested pace, and fields packed
one after another. -/

namespace Sys2Proof.Machine

variable {s t u : State}

/-! ### The supervisor port and the governor -/

/-- What an evaluation keeps: the supervisor port, the number of bays, and of the governor all but the effective
pace. -/
structure State.Steered (s t : State) : Prop where
  supervisor : t.supervisor = s.supervisor
  governor : ∃ p, t.governor = { s.governor with effective := p }
  bays : t.bays.length = s.bays.length

theorem State.Steered.refl (s : State) : s.Steered s := ⟨rfl, ⟨_, rfl⟩, rfl⟩

theorem State.Steered.of_eq (hsup : t.supervisor = s.supervisor) (hgov : t.governor = s.governor)
    (hbays : t.bays.length = s.bays.length) : s.Steered t :=
  ⟨hsup, ⟨s.governor.effective, hgov⟩, hbays⟩

theorem State.Steered.trans (h : s.Steered t) (g : t.Steered u) : s.Steered u := by
  obtain ⟨p, hp⟩ := h.governor
  obtain ⟨q, hq⟩ := g.governor
  exact ⟨g.supervisor.trans h.supervisor, ⟨q, by rw [hq, hp]⟩, g.bays.trans h.bays⟩

theorem State.Steered.repace (h : s.Steered t) : s.Steered t.repace := h.trans ⟨by simp, ⟨_, t.repace_governor⟩, by simp⟩

theorem State.Steered.raise (h : s.Steered t) (k : Notice) : s.Steered (t.raise k) := h.trans (.of_eq rfl rfl rfl)

theorem State.Steered.removeVolume (h : s.Steered t) (k : Removal) (v : Volume) : s.Steered (t.removeVolume k v) :=
  h.trans ⟨by simp, t.removeVolume_governor k v, by simp⟩

theorem eq_fst_of_some {a : Answer} {p : State × Answer} (h : some p = some (t, a)) : t = p.1 := by cases h; rfl

theorem steered_evalCaseCall {last : Bool} {a : Answer} (h : evalCaseCall last s = some (t, a)) : s.Steered t := by
  obtain e | ⟨n, e⟩ | ⟨v, -, ⟨r, e⟩ | ⟨r, e⟩ | ⟨-, k, w, -, e⟩⟩ := evalCaseCall_cases s last <;> rw [e] at h
  · cases h
  · rw [eq_fst_of_some h]
    exact .refl s
  · rw [eq_fst_of_some h]
    exact ((State.Steered.refl s).removeVolume .diverted v).raise .divert
  · rw [eq_fst_of_some h]
    unfold caseWaitCounted
    split
    · exact .of_eq rfl rfl rfl
    · exact ((State.Steered.refl s).removeVolume .diverted v).raise .divert
  · rw [eq_fst_of_some h]
    exact .of_eq rfl rfl rfl

theorem steered_evalNextMove {last : Bool} {a : Answer} (h : evalNextMove last s = some (t, a)) : s.Steered t := by
  obtain ⟨e, -⟩ | ⟨e, -⟩ | ⟨u, b, -, e⟩ | ⟨v, b, -, e⟩ := evalNextMove_cases s last <;> rw [e] at h
  · cases h
  · rw [eq_fst_of_some h]
    exact .refl s
  · rw [eq_fst_of_some h]
    unfold unloadBay
    split <;> exact .of_eq rfl rfl (by simp)
  · rw [eq_fst_of_some h]
    exact .repace (.of_eq rfl rfl (by simp))

theorem steered_skipToMissing (ahead : List Volume) : s.Steered (skipToMissing ahead s) := by
  unfold skipToMissing
  induction ahead generalizing s with
  | nil => exact .refl s
  | cons v ahead ih => exact State.Steered.trans (.of_eq (by simp) (by simp) (by simp)) (ih (s := s.goMissing v.number))

theorem steered_takeAtOutfeed (v : Volume) (raw skipped : Nat) (returned : Bool) :
    s.Steered (takeAtOutfeed v raw skipped returned s).1 := by
  unfold takeAtOutfeed
  dsimp only
  split
  · refine .raise (.removeVolume (.of_eq ?_ ?_ ?_) .diverted v) .divert <;> rfl
  · exact .of_eq rfl rfl rfl

theorem steered_evalGauge {tag : Option Tag} {raw : Nat} {last : Bool} {a : Answer}
    (h : evalGauge tag raw last s = some (t, a)) : s.Steered t := by
  obtain e | e | e | ⟨v, vs, -, e⟩ | ⟨u, ahead, v, vs, -, -, e⟩ | ⟨u, v, -, -, e⟩ := evalGauge_cases s tag raw last <;>
    rw [e] at h
  · cases h
  · rw [eq_fst_of_some h]
    exact .refl s
  · rw [eq_fst_of_some h]
    exact .of_eq rfl rfl rfl
  · rw [eq_fst_of_some h]
    refine State.Steered.trans (t := s.updVolume v.number fun u => { u with unverified := true }) ?_
      (steered_takeAtOutfeed ..)
    exact .of_eq rfl rfl rfl
  · rw [eq_fst_of_some h]
    exact (steered_skipToMissing ahead).trans (steered_takeAtOutfeed ..)
  · rw [eq_fst_of_some h]
    exact steered_takeAtOutfeed ..

theorem steered_bareDelivery (v : Volume) (eject : Nat) (why : BareReason) (w : List WindowEntry) :
    s.Steered (bareDelivery v eject why w s).1 := .of_eq rfl rfl rfl

theorem steered_evalFoldCall {last : Bool} {a : Answer} (h : evalFoldCall last s = some (t, a)) : s.Steered t := by
  obtain e | ⟨n, e⟩ | ⟨v, -, e | ⟨u, j, k, w, -, e⟩ | e | e⟩ := evalFoldCall_cases s last <;> rw [e] at h
  · cases h
  · rw [eq_fst_of_some h]
    exact .refl s
  · rw [eq_fst_of_some h]
    exact .of_eq rfl rfl rfl
  · rw [eq_fst_of_some h]
    unfold foldAt
    split
    · exact .of_eq rfl rfl rfl
    · split <;> exact steered_bareDelivery ..
  · rw [eq_fst_of_some h]
    unfold foldWaitCounted
    split
    · exact .of_eq rfl rfl rfl
    · exact steered_bareDelivery ..
  · rw [eq_fst_of_some h]
    exact steered_bareDelivery ..

theorem steered_evalQuery {q : Query} {last : Bool} {a : Answer} (h : evalQuery q last s = some (t, a)) : s.Steered t := by
  cases q with
  | caseCall => exact steered_evalCaseCall h
  | nextMove => exact steered_evalNextMove h
  | gauge => exact steered_evalGauge h
  | foldCall => exact steered_evalFoldCall h

theorem steered_reevaluate (k : Query → Bool) : s.Steered (s.reevaluate k) := by
  obtain ⟨-, e⟩ | ⟨l, h, -, e⟩ := s.reevaluate_cases k
  · rw [e]
    exact .refl s
  · rw [e]
    obtain ⟨-, e'⟩ | ⟨u, a, hu, e'⟩ := s.settle_cases l h (evalQuery h.query false s) <;> rw [e']
    · exact .of_eq rfl rfl rfl
    · exact (steered_evalQuery hu).trans (.of_eq rfl rfl rfl)

theorem steered_repaceReleasing (s : State) : s.Steered s.repaceReleasing := by
  rw [State.repaceReleasing_eq]
  refine (State.Steered.refl s).repace.trans ?_
  obtain e | e | e | e := s.repace.release_cases s.governor.effective s.lowestPace <;> rw [e]
  · exact .refl _
  · exact steered_reevaluate _
  · exact (steered_reevaluate _).trans (steered_reevaluate _)
  · exact ((steered_reevaluate _).trans (steered_reevaluate _)).trans (steered_reevaluate _)

@[simp] theorem State.reevaluate_supervisor (k : Query → Bool) : (s.reevaluate k).supervisor = s.supervisor :=
  (steered_reevaluate k).supervisor

@[simp] theorem State.repaceReleasing_supervisor (s : State) : s.repaceReleasing.supervisor = s.supervisor :=
  (steered_repaceReleasing s).supervisor

@[simp] theorem State.repaceReleasing_requested (s : State) :
    s.repaceReleasing.governor.requested = s.governor.requested := by
  obtain ⟨p, hp⟩ := (steered_repaceReleasing s).governor
  rw [hp]

@[simp] theorem State.repaceReleasing_latchBytes (s : State) : s.repaceReleasing.latchBytes = s.latchBytes := by
  obtain ⟨p, hp⟩ := (steered_repaceReleasing s).governor
  simp [State.latchBytes, hp]

/-! ### Fields packed one after another -/

@[simp] theorem pack_nil : pack [] = [] := rfl

theorem pack_cons (w n : Nat) (fs : List (Nat × Nat)) : pack ((w, n) :: fs) = le w n ++ pack fs := rfl

theorem pack_append (fs gs : List (Nat × Nat)) : pack (fs ++ gs) = pack fs ++ pack gs := List.flatMap_append

theorem pack_map {α : Type} (w : Nat) (f : α → Nat) (l : List α) :
    pack (l.map fun a => (w, f a)) = l.flatMap fun a => le w (f a) := by
  rw [pack, List.flatMap_map]

end Sys2Proof.Machine

/-! SUPPORT. Answers leaving their ports (R167, R175, R176), the pace requests (R149, R152, R158) and the title requests
of one title (R13, R14, R16, R17, R22). -/

namespace Sys2Proof.Machine

variable {s : State}

/-! ### The ports -/

theorem execAnswerRead_of_holding {a : Answer} {n : Nat} (hphase : s.phase = .running)
    (hslot : s.supervisor.slot = .holding a n) (k : Nat) : execAnswerRead k s = .next { s with supervisor :=
      ⟨if k < (partFrame 6 a n).length then .holding a n
        else if n + 1 < partCount a then .holding a (n + 1) else .empty, 0x02#8 :: (partFrame 6 a n).take k⟩ } := by
  unfold execAnswerRead
  rw [if_neg (by simp [hphase]), State.stateByte_of_running hphase, hslot]
  dsimp only
  by_cases hk : (partFrame (portTag .supervisor) a n).length ≤ k
  · rw [if_pos hk, if_neg (show ¬ k < (partFrame 6 a n).length from Nat.not_lt.2 hk)]
    rfl
  · rw [if_neg hk, if_pos (show k < (partFrame 6 a n).length from Nat.lt_of_not_le hk)]
    simp only [State.shiftOut, hslot]
    rfl

theorem execAnswerRead_of_not_holding (h : ∀ a n, s.supervisor.slot ≠ .holding a n) (k : Nat) :
    execAnswerRead k s = .next (s.shiftOut s.stateByte) := by
  unfold execAnswerRead
  split
  · rfl
  · split
    · next e => exact absurd e (h _ _)
    · rfl

/-- Settles O12: sends and collisions by the output list, reads by the slot. -/
theorem answersLeaveTheirPorts : Obligations.AnswersLeaveTheirPorts := by
  unfold Obligations.AnswersLeaveTheirPorts
  refine ⟨fun l s => ⟨fun h => ⟨?_, fun n => ?_⟩, fun e rest h => ⟨?_, fun n => ?_⟩⟩,
    fun s a n k hphase hslot => execAnswerRead_of_holding hphase hslot k, fun s k hphase hslot => ?_,
    fun s k hphase hslot => ?_, fun s k hphase => ?_, fun s => ?_⟩
  · change execAnswerSend l s = _
    simp [execAnswerSend, h]
  · change execAnswerCollision l n s = _
    simp [execAnswerCollision, h]
  · change execAnswerSend l s = _
    simp only [execAnswerSend, h]
    rfl
  · change execAnswerCollision l n s = _
    simp only [execAnswerCollision, h]
    rfl
  · refine (execAnswerRead_of_not_holding (by simp [hslot]) k).trans ?_
    rw [State.stateByte_of_running hphase, hslot, State.shiftOut]
    simp [hslot]
  · refine (execAnswerRead_of_not_holding (by simp [hslot]) k).trans ?_
    rw [State.stateByte_of_running hphase, hslot, State.shiftOut]
    simp [hslot]
  · change execAnswerRead k s = _
    unfold execAnswerRead
    rw [if_pos hphase, State.stateByte_of_loading hphase]
    rfl
  · unfold State.ready
    split
    · next a n h => simp [h]
    · next h => simpa using h

/-! ### The pace requests -/

theorem paceOfByte_of_gt {n : Nat} (h : 4 < n) : paceOfByte n = none := by
  match n, h with
  | n + 5, _ => rfl

/-- R163: the standing latches, bit by bit. -/
theorem State.latchBytes_eq_pack (s : State) : s.latchBytes
    = pack [(1, (if s.governor.guardLatch then 1 else 0) + if s.governor.glueLatch then 2 else 0)] := by
  have h : ∀ a b : Bool, setByte [a, b] = pack [(1, (if a then 1 else 0) + if b then 2 else 0)] := by decide
  exact h _ _

theorem exec_paceSet_of_byte {n : Nat} {p : Pace} (h : s.Awaiting) (hp : paceOfByte n = some p) :
    let t := State.repaceReleasing { s.taken with governor := { s.governor with
      requested := p, stepDown := .run
      idleDue := if p = .run then some (s.clock + s.profile.idle1 * 1000) else none } }
    exec (.paceSet n) s
      = .next (State.answered ⟨0x50, .ok, none, pack [(1, paceCode p), (1, paceCode t.governor.effective)]⟩ t) := by
  refine congrArg Host.Outcome.next (State.request_of_awaiting h ?_ (by simp [State.taken]))
  unfold setPaceRequest
  rw [hp]
  dsimp only
  rw [State.requestPace_eq]
  rw [State.repaceReleasing_requested]
  rfl

/-- Settles O43. -/
theorem paceSetAndRelease : Obligations.PaceSetAndRelease := by
  unfold Obligations.PaceSetAndRelease
  refine ⟨fun s h => ⟨fun n hn => ?_, fun n p hp => ?_⟩, fun s h => ?_⟩
  · refine congrArg Host.Outcome.next (State.request_of_taken s h ?_)
    unfold setPaceRequest
    rw [paceOfByte_of_gt hn]
    rfl
  · have hbyte : ∀ q ∈ ([(0, .stop), (1, .hold), (2, .crawl), (3, .ease), (4, .run)] : List (Nat × Pace)),
        paceOfByte q.1 = some q.2 ∧ paceCode q.2 = q.1 := by decide
    obtain ⟨hbyte, hcode⟩ := hbyte _ hp
    dsimp only at hbyte hcode
    rw [← hcode]
    exact exec_paceSet_of_byte h (by rw [hcode, hbyte])
  · refine congrArg Host.Outcome.next (State.request_of_awaiting h ?_ (by simp [State.taken]))
    unfold releaseRequest
    dsimp only
    rw [State.repaceReleasing_latchBytes, State.latchBytes_eq_pack]
    rfl

/-! ### STATUS_READ -/

/-- R163: a set in one byte is the number of its bits. -/
theorem setByte_eq_pack (bs : List Bool) :
    setByte bs = pack [(1, (bs.foldr (fun b n => (if b then 1 else 0) + 2 * n) 0 : Nat))] := by
  have h : ∀ b : Bool, b.toNat = if b then 1 else 0 := by decide
  simp only [setByte, h, pack_cons, pack_nil, List.append_nil]

theorem State.paceLines_toNat (s : State) : s.paceLines.toNat = paceLineCode s.governor.effective := by
  unfold State.paceLines
  cases s.governor.effective <;> rfl

/-- R106: whether the bay of this number counts as vacant. -/
def countsVacant (bays : List Bay) (assignment : List (Option JawGroup)) (b : Nat) : Bool :=
  match bays[b]?, assignment[b]? with
    | some r, some (some _) => r.state == .vacant
    | _, _ => false

theorem length_filter_zip_vacant (bays : List Bay) (assignment : List (Option JawGroup)) :
    ((bays.zip assignment).filter fun p => p.1.state == .vacant && p.2.isSome).length
      = ((List.range bays.length).filter (countsVacant bays assignment)).length := by
  induction bays generalizing assignment with
  | nil => rfl
  | cons r bays ih =>
    have hsucc (as : List (Option JawGroup)) : ((List.range (r :: bays).length).filter (countsVacant (r :: bays) as)).length
        = (if countsVacant (r :: bays) as 0 then 1 else 0)
          + ((List.range bays.length).filter fun b => countsVacant (r :: bays) as (b + 1)).length := by
      rw [List.length_cons, List.range_succ_eq_map, List.filter_cons, List.filter_map, Function.comp_def]
      split <;> simp [Nat.add_comm]
    rw [hsucc]
    cases assignment with
    | nil => simp [countsVacant]
    | cons a as =>
      have htail : (fun b => countsVacant (r :: bays) (a :: as) (b + 1)) = countsVacant bays as := rfl
      rw [htail, ← ih as, List.zip_cons_cons, List.filter_cons]
      cases a with
      | none => simp [countsVacant]
      | some g => by_cases hr : r.state = .vacant <;> simp [countsVacant, hr, Nat.add_comm]

/-- Settles O44: the fields of STATUS_READ in order. -/
theorem statusReadAndPaceLines : Obligations.StatusReadAndPaceLines := by
  unfold Obligations.StatusReadAndPaceLines
  refine ⟨fun s h => ?_, fun s => ?_, fun s => length_filter_zip_vacant _ _, fun p => by cases p <;> rfl⟩
  · refine congrArg Host.Outcome.next (State.request_of_taken s h ?_)
    refine congrArg (fun bytes => (s.taken, okAnswer .statusRead bytes)) (?_ : s.statusFields = _)
    unfold State.statusFields
    have hceilings : allCauses.map s.ceilingStands = [s.governor.lines.guardOpen || s.governor.guardLatch,
        s.governor.lines.platenCold, !s.governor.lines.glueReady || s.governor.glueLatch,
        s.governor.lines.platenLow && !s.profile.cycling, decide (s.vacantCount < s.profile.lowWater),
        decide (s.profile.highWater ≤ s.volumes.length), isSlow s.governor.recovery] := rfl
    rw [s.paceLines_toNat, hceilings]
    simp only [setByte_eq_pack, lineBytes, State.latchBytes]
    cases s.governor.idleDue <;> cases s.governor.recovery <;>
      simp only [pack_append, pack_cons, pack_nil, List.append_assoc, List.append_nil, Option.map_none, Option.map_some,
        optional, recoveryEnd, recoveryCode, timeBytes]
    all_goals rfl
  · unfold State.paceLines
    refine ⟨?_, ?_, ?_, ?_, ?_⟩ <;> (intro h; rw [h]; rfl)

/-! ### Requests that name a title -/

theorem onTitle_of_absent {k : Kind} {code : Nat} (f : Title → State → State × Answer)
    (h : ∀ t ∈ s.titles, t.code ≠ code) :
    onTitle k code f s.taken = (s.taken, refuse k (if code = 0 then .badValue else .notFound)) := by
  have hnone : s.taken.title? code = none := List.find?_eq_none.2 fun t ht => by simpa using h t ht
  unfold onTitle
  rw [hnone]
  split <;> rfl

theorem onTitle_of_resident {k : Kind} {code : Nat} {t : Title} (f : Title → State → State × Answer) (hcode : code ≠ 0)
    (h : s.title? code = some t) : onTitle k code f s.taken = f t s.taken := by
  have hsome : s.taken.title? code = some t := h
  unfold onTitle
  rw [if_neg hcode, hsome]

theorem State.removeTitle_eq (code : Nat) (s : State) :
    s.removeTitle code = { s with titles := s.titles.filter fun u => u.code ≠ code } := by
  simp [State.removeTitle, bne, beq_eq_decide]

/-- Settles O37: each request on the resident title, and on a code that names none. -/
theorem titleHoldFreeRetire : Obligations.TitleHoldFreeRetire := by
  unfold Obligations.TitleHoldFreeRetire
  refine ⟨fun s code t h hcode ht => ⟨fun hret => ?_, fun hret => ?_, ?_, fun hzero => ?_, fun hpos => ?_⟩,
    fun s code h hnone => ⟨?_, ?_, ?_, ?_⟩⟩
  · refine congrArg Host.Outcome.next (State.request_of_taken s h ((onTitle_of_resident _ hcode ht).trans ?_))
    simp [hret, refuse, refusedAnswer, kindByte]
  · refine congrArg Host.Outcome.next (State.request_of_taken (s.updTitle code fun u => { u with hold := true }) h
      ((onTitle_of_resident _ hcode ht).trans ?_))
    rw [if_neg (by simp [hret])]
    rfl
  · exact congrArg Host.Outcome.next (State.request_of_taken (s.updTitle code fun u => { u with hold := false }) h
      (onTitle_of_resident _ hcode ht))
  · rw [← State.removeTitle_eq]
    refine congrArg Host.Outcome.next (State.request_of_taken (s.removeTitle code) h
      ((onTitle_of_resident _ hcode ht).trans ?_))
    rw [if_pos hzero]
    rfl
  · refine congrArg Host.Outcome.next (State.request_of_taken
      (s.updTitle code fun u => { u with hold := false, retiring := true }) h
      ((onTitle_of_resident _ hcode ht).trans ?_))
    rw [if_neg (by omega)]
    rfl
  all_goals exact congrArg Host.Outcome.next (State.request_of_taken s h (onTitle_of_absent _ hnone))

/-! ### TITLE_READ, TITLE_PURGE and MISS_READ -/

theorem pack_flatMap {α : Type} (f : α → List (Nat × Nat)) (l : List α) :
    pack (l.flatMap f) = l.flatMap fun a => pack (f a) := List.flatMap_assoc

/-- R17: the fields of a title record. -/
theorem titleFields_eq_pack (t : Title) (depth : Nat) : titleFields t depth =
    pack [(3, t.code), (1, titleStateCode (titleState t)), (1, if t.hold then 1 else 0), (1, marryCode t.marry),
      (2, t.tNom), (1, t.board)]
    ++ (match t.jacket with
      | none => [0#8]
      | some j => pack [(1, 1), (2, j.sheet), (2, j.centre), (2, j.panel), (2, j.spine), (1, j.wrap), (1, j.growth),
          (2, j.minFlap)])
    ++ pack [(1, bandCode t.band), (2, t.dwellBase), (1, t.dwellSlope), (2, t.quota), (1, t.volumeCount),
      (4, t.admitted), (4, t.outJacketed), (4, t.outBare), (4, t.diverted), (4, t.cleared),
      (1, if t.quotaReached then 1 else 0), (1, depth)] := by
  have hbit : ∀ b : Bool, b.toNat = if b then 1 else 0 := by decide
  unfold titleFields
  cases t.jacket <;> simp only [flagByte, hbit, pack_cons, pack_nil, List.append_assoc, List.append_nil] <;> rfl

theorem isDormant_eq (t : Title) : (titleState t != .dormant) = (t.retiring || t.volumeCount != 0 || t.hold) := by
  rw [Bool.eq_iff_iff]
  simp only [bne_iff_ne, ne_eq, titleState_eq_dormant_iff, Bool.or_eq_true]
  cases t.retiring <;> cases t.hold <;> simp

/-- Settles O38. -/
theorem titleReadsAndPurge : Obligations.TitleReadsAndPurge := by
  unfold Obligations.TitleReadsAndPurge
  refine fun s h => ⟨fun before t after htitles hcode hbefore => ?_, ?_, ?_⟩
  · have hmiss : before.find? (fun u => u.code == t.code) = none :=
      List.find?_eq_none.2 fun u hu => by simpa using hbefore u hu
    have ht : s.title? t.code = some t := by
      simp [State.title?, htitles, List.find?_append, hmiss]
    have hdepth : s.recencyDepth t.code = before.length := by
      have hidx : before.findIdx (fun u => u.code == t.code) = before.length :=
        List.findIdx_eq_length.2 fun u hu => by simpa using hbefore u hu
      simp [State.recencyDepth, htitles, List.findIdx_append, List.findIdx_cons, hidx]
    refine congrArg Host.Outcome.next (State.request_of_taken s h ((onTitle_of_resident _ hcode ht).trans ?_))
    rw [show s.taken.recencyDepth t.code = before.length from hdepth, titleFields_eq_pack]
    rfl
  · refine congrArg Host.Outcome.next (State.request_of_taken
      { s with titles := s.titles.filter fun t => t.retiring || t.volumeCount != 0 || t.hold } h ?_)
    unfold purgeRequest
    simp only [isDormant_eq]
    rfl
  · refine congrArg Host.Outcome.next (State.request_of_taken s h ?_)
    refine congrArg (fun bytes => (s.taken, okAnswer .missRead bytes)) (?_ : s.missFields = _)
    simp only [State.missFields, State.waitingFor, pack_flatMap, pack_cons, pack_nil, List.append_nil,
      List.countP_eq_length_filter]

end Sys2Proof.Machine

/-! SUPPORT. The condition lines (R150, R151, R154), the timers (R114, R115, R154, R155) and the ENTRY that is not
admitted (R48 to R53). -/

namespace Sys2Proof.Machine

variable {s : State}

/-! ### The condition lines -/

theorem State.takeLevel_of_loading (h : s.phase = .loading) (set : ConditionLines → ConditionLines)
    (effect : State → State) :
    s.takeLevel set effect = { s with governor := { s.governor with lines := set s.governor.lines } } := if_pos (.inl h)

theorem State.takeLevel_of_change (h : s.phase = .running) {set : ConditionLines → ConditionLines}
    (hset : set s.governor.lines ≠ s.governor.lines) (effect : State → State) : s.takeLevel set effect
      = (effect { s with governor := { s.governor with lines := set s.governor.lines } }).repaceReleasing :=
  if_neg (not_or.2 ⟨by simp [h], hset⟩)

/-- Settles O33, line by line. -/
theorem conditionLinesReachGovernor : Obligations.ConditionLinesReachGovernor := by
  unfold Obligations.ConditionLinesReachGovernor
  have hne {a b : ConditionLines} (f : ConditionLines → Bool) (h : f a ≠ f b) : a ≠ b := fun e => h (by rw [e])
  refine fun s => ⟨fun h => ⟨fun hl => ?_, fun hl => ?_, fun hl hopt => ?_, fun hl hopt => ?_, fun hl => ?_, fun hl => ?_,
    fun hl => ?_, fun x hl => ?_⟩, fun h x => ⟨?_, ?_, ?_, ?_⟩⟩
  · exact congrArg Host.Outcome.next (State.takeLevel_of_change h (hne ConditionLines.guardOpen (by simp [hl])) _)
  · exact congrArg Host.Outcome.next (State.takeLevel_of_change h (hne ConditionLines.guardOpen (by simp [hl])) _)
  · refine congrArg Host.Outcome.next
      ((State.takeLevel_of_change h (hne ConditionLines.glueReady (by simp [hl])) _).trans ?_)
    simp only [Bool.false_eq_true, if_false, State.glueOnset, hopt, if_true]
    rfl
  · refine congrArg Host.Outcome.next
      ((State.takeLevel_of_change h (hne ConditionLines.glueReady (by simp [hl])) _).trans ?_)
    simp only [Bool.false_eq_true, if_false, State.glueOnset, hopt]
  · exact congrArg Host.Outcome.next (State.takeLevel_of_change h (hne ConditionLines.glueReady (by simp [hl])) _)
  · refine congrArg Host.Outcome.next
      ((State.takeLevel_of_change h (hne ConditionLines.platenLow (by simp [hl])) _).trans ?_)
    simp only [if_true, State.platenLowOnset]
    split <;> rfl
  · exact congrArg Host.Outcome.next (State.takeLevel_of_change h (hne ConditionLines.platenLow (by simp [hl])) _)
  · exact congrArg Host.Outcome.next (State.takeLevel_of_change h (hne ConditionLines.platenCold (Ne.symm hl)) _)
  all_goals exact congrArg Host.Outcome.next (State.takeLevel_of_loading h _ _)

/-! ### The timers -/

theorem execDwellExpiry_of_bay {b : Fin 16} {r : Bay} (h : s.bays[b.val]? = some r) : execDwellExpiry b s =
    if r.state = .closed then .next ((s.clockReaches (r.expiry.getD 0)).dwellEnds b.val r) else .next s := by
  unfold execDwellExpiry
  rw [show s.bay? b.val = some r from h]

theorem execOverdwellExpiry_of_none {b : Fin 16} {r : Bay} (h : s.bays[b.val]? = some r) (hdue : r.overdwellDue = none) :
    execOverdwellExpiry b s = .next s := by
  simp only [execOverdwellExpiry, show s.bay? b.val = some r from h, hdue]

theorem execOverdwellExpiry_of_due {b : Fin 16} {r : Bay} {due : Nat} (h : s.bays[b.val]? = some r)
    (hst : r.state = .done) (hdue : r.overdwellDue = some due) :
    execOverdwellExpiry b s = .next ((s.clockReaches due).overpress b.val r) := by
  simp only [execOverdwellExpiry, show s.bay? b.val = some r from h, hdue, hst, if_true]

/-- Settles O32, timer by timer. -/
theorem timersExpire : Obligations.TimersExpire := by
  unfold Obligations.TimersExpire
  refine ⟨fun s b r n e hb hn => ⟨fun hst he => ?_, fun hst he => ?_, fun hst => ?_, fun he => ?_⟩,
    fun s e => ⟨fun hdue hst => ?_, fun hdue hst => ?_, fun hrec => ?_, fun hrec => ?_, fun hdue => ?_, fun hrec => ?_⟩⟩
  · refine (execDwellExpiry_of_bay hb).trans ?_
    simp only [hst, if_true, State.dwellEnds, hn, he, Bay.finish, Option.getD_some]
    rfl
  · refine (execOverdwellExpiry_of_due hb hst he).trans ?_
    simp only [State.overpress, hn]
    rfl
  · exact (execDwellExpiry_of_bay hb).trans (if_neg hst)
  · exact execOverdwellExpiry_of_none hb he
  · change execIdleTimerExpiry s = _
    simp only [execIdleTimerExpiry, hdue, State.stepDownFalls]
    rw [if_pos (show (s.clockReaches e).governor.stepDown = .run from hst)]
    rfl
  · change execIdleTimerExpiry s = _
    simp only [execIdleTimerExpiry, hdue, State.stepDownFalls]
    rw [if_neg (show (s.clockReaches e).governor.stepDown ≠ .run from hst)]
    rfl
  · change execRecoveryPeriodEnd s = _
    simp only [execRecoveryPeriodEnd, hrec]
    rfl
  · change execRecoveryPeriodEnd s = _
    simp only [execRecoveryPeriodEnd, hrec]
    rfl
  · change execIdleTimerExpiry s = _
    simp only [execIdleTimerExpiry, hdue]
  · change execRecoveryPeriodEnd s = _
    simp only [execRecoveryPeriodEnd, hrec]

/-! ### ENTRY -/

theorem exec_entry {l : Line} (h : s.Hears l .entry) (hslot : (s.station l).slot = .empty) (serial : Nat) {raw : Nat}
    (hraw : raw ≤ 2047) : exec (.entry l serial raw) s
      = .next (((evalEntry serial raw s).1.answerSlot l (evalEntry serial raw s).2).afterAdmission s) := by
  have hgood : goodRaw raw = true := decide_eq_true hraw
  refine congrArg Host.Outcome.next ((State.receive_of_hears h _).trans ?_)
  unfold State.checked State.takeEntry
  rw [hgood, hslot]
  rfl

theorem paceRank_le_two_iff (p : Pace) : paceRank p ≤ paceRank .hold ↔ p = .hold ∨ p = .stop := by
  cases p <;> simp [paceRank]

/-- R97: an ENTRY that admits nothing leaves the caser's front, and has no CASE_CALL evaluated again. -/
theorem State.afterAdmission_of_same {t : State} (h : t.caserFront = s.caserFront) : t.afterAdmission s = t := by
  unfold State.afterAdmission
  rw [h]
  cases s.caserFront <;> rfl

/-- R37: with fewer than 64 records a slot is free. -/
theorem State.exists_freeVolumeSlot (h : s.volumes.length < 64) : ∃ n, s.freeVolumeSlot = some n := by
  by_contra hnone
  have hall : ∀ n < 64, n ∈ s.volumes.map Volume.number := by
    have := List.find?_eq_none.1 (Option.eq_none_iff_forall_ne_some.2 (not_exists.1 hnone))
    simpa [Config.volumeSlots] using this
  have hle : (List.range 64).length ≤ (s.volumes.map Volume.number).length :=
    (List.subperm_of_subset List.nodup_range fun n hn => hall n (List.mem_range.1 hn)).length_le
  rw [List.length_range, List.length_map] at hle
  omega

section
variable {serial raw : Nat}

/-- R49, R50: an ENTRY goes on to its serial where the line is not halted and a slot is free. -/
theorem not_entryWaits (hpace : ¬ s.Halted) (hroom : s.volumes.length < 64) :
    ¬ (paceRank s.governor.effective ≤ paceRank .hold ∨ Config.volumeSlots ≤ s.fill) := by
  rw [paceRank_le_two_iff]
  exact not_or.2 ⟨hpace, Nat.not_le.2 hroom⟩

theorem evalEntry_of_duplicate (hpace : ¬ s.Halted) (hroom : s.volumes.length < 64)
    (hserial : ∃ v ∈ s.volumes, v.serial = serial) : evalEntry serial raw s = divertBlock .duplicateSerial s := by
  obtain ⟨n, hn⟩ := State.exists_freeVolumeSlot hroom
  unfold evalEntry
  rw [if_neg (not_entryWaits hpace hroom), hn]
  exact if_pos (by simpa using hserial)

theorem evalEntry_of_unmapped (hpace : ¬ s.Halted) (hroom : s.volumes.length < 64)
    (hserial : ∀ v ∈ s.volumes, v.serial ≠ serial) (hrange : s.rangeFor serial = none) :
    evalEntry serial raw s = divertBlock .unmapped s := by
  obtain ⟨n, hn⟩ := State.exists_freeVolumeSlot hroom
  unfold evalEntry
  rw [if_neg (not_entryWaits hpace hroom), hn]
  dsimp only
  rw [if_neg (by simpa using hserial), hrange]

theorem evalEntry_of_resident (hpace : ¬ s.Halted) (hroom : s.volumes.length < 64)
    (hserial : ∀ v ∈ s.volumes, v.serial ≠ serial) {e : RangeEntry} {i n : Nat} (hrange : s.rangeFor serial = some (e, i))
    (hn : s.freeVolumeSlot = some n) {t : Title} (ht : s.title? e.code = some t) : evalEntry serial raw s =
      if t.retiring then divertBlock .retiredTitle s
      else (admitBlock n serial raw e.code (unitNumber e serial) s, admitAnswer n) := by
  unfold evalEntry
  rw [if_neg (not_entryWaits hpace hroom), hn]
  dsimp only
  rw [if_neg (by simpa using hserial), hrange]
  dsimp only
  rw [ht]

theorem evalEntry_of_absent (hpace : ¬ s.Halted) (hroom : s.volumes.length < 64)
    (hserial : ∀ v ∈ s.volumes, v.serial ≠ serial) {e : RangeEntry} {i n : Nat} (hrange : s.rangeFor serial = some (e, i))
    (hn : s.freeVolumeSlot = some n) (ht : s.title? e.code = none) : evalEntry serial raw s =
      if 8 ≤ s.missList.length ∧ e.code ∉ s.missList then divertBlock .noTitle s
      else (admitBlock n serial raw e.code (unitNumber e serial) s, admitAnswer n) := by
  unfold evalEntry
  rw [if_neg (not_entryWaits hpace hroom), hn]
  dsimp only
  rw [if_neg (by simpa using hserial), hrange]
  dsimp only
  rw [ht]
  simp [Config.missListSize]

end

/-- Settles O24: the outcomes of R48 in order. -/
theorem entryTurnsBlocksAway : Obligations.EntryTurnsBlocksAway := by
  unfold Obligations.EntryTurnsBlocksAway
  intro s l serial raw h hslot hraw
  have hdivert {r : Reason} (e : evalEntry serial raw s = divertBlock r s) : exec (.entry l serial raw) s
      = .next ((State.raise .divert s).answerSlot l ⟨0x20, .divert, some r, []⟩) := by
    rw [exec_entry h hslot serial hraw, e]
    exact congrArg Host.Outcome.next (State.afterAdmission_of_same rfl)
  refine ⟨fun hwait => ?_, fun hpace hroom => ⟨fun hserial => ?_, fun hserial => ⟨fun hnone => ?_, fun e i hrange => ?_⟩⟩⟩
  · have e : evalEntry serial raw s = (s, entryWaitAnswer) :=
      if_pos (hwait.imp_left (paceRank_le_two_iff _).2)
    rw [exec_entry h hslot serial hraw, e]
    exact congrArg Host.Outcome.next (State.afterAdmission_of_same rfl)
  · exact hdivert (evalEntry_of_duplicate hpace hroom hserial)
  · refine hdivert (evalEntry_of_unmapped hpace hroom hserial ((State.rangeFor_eq_none_iff serial).2 fun e he => ?_))
    rw [ne_eq, rangeMatches_iff, not_and]
    exact hnone e he
  · obtain ⟨n, hn⟩ := State.exists_freeVolumeSlot hroom
    refine ⟨fun t ht hret => hdivert ?_, fun ht hmiss hfull => hdivert ?_⟩
    · rw [evalEntry_of_resident hpace hroom hserial hrange hn ht, if_pos hret]
    · rw [evalEntry_of_absent hpace hroom hserial hrange hn ht, if_pos ⟨hfull, hmiss⟩]

end Sys2Proof.Machine

/-! SUPPORT. The volume requests (R61 to R63) and the bay requests (R122 to R125). -/

namespace Sys2Proof.Machine

variable {s : State}

/-! ### Requests that name a volume -/

theorem onVolume_of_gt {k : Kind} {n : Nat} (h : 63 < n) (f : Volume → State → State × Answer) :
    onVolume k n f s = (s, refuse k .badValue) := if_pos (show 64 ≤ n by omega)

theorem onVolume_of_free {k : Kind} {n : Nat} (h : n ≤ 63) (hfree : s.volume? n = none)
    (f : Volume → State → State × Answer) : onVolume k n f s = (s, refuse k .notFound) := by
  unfold onVolume
  rw [if_neg (show ¬ Config.volumeSlots ≤ n from by simp only [Config.volumeSlots]; omega), hfree]

theorem onVolume_of_volume {k : Kind} {n : Nat} {v : Volume} (h : n ≤ 63) (hv : s.volume? n = some v)
    (f : Volume → State → State × Answer) : onVolume k n f s = f v s := by
  unfold onVolume
  rw [if_neg (show ¬ Config.volumeSlots ≤ n from by simp only [Config.volumeSlots]; omega), hv]

/-- The number of records ahead of the first of a number is the depth at which it is found. -/
theorem findIdx_eq_length_takeWhile {α : Type} (p : α → Bool) (l : List α) :
    l.findIdx p = (l.takeWhile fun a => !p a).length := by
  induction l with
  | nil => rfl
  | cons a l ih => cases h : p a <;> simp [List.findIdx_cons, h, ih]

/-- R62: the sequence and the depth of a volume, by the numbers ahead of it. -/
theorem State.sequenceOf_eq (s : State) (v : Volume) : s.sequenceOf v =
    let isPrePress := fun u : Volume => decide (u.state ∈ [VolumeState.awaitTitle, .awaitCase, .casing, .cased])
    let ahead := fun l : List Nat => (l.takeWhile fun m => m ≠ v.number).length
    if isPrePress v then (1, some (ahead ((s.volumes.filter isPrePress).map Volume.number)))
    else if v.number ∈ s.postPress then (2, some (ahead s.postPress)) else (0, none) := by
  have hpre (u : Volume) : decide (u.state ∈ [VolumeState.awaitTitle, .awaitCase, .casing, .cased])
      = u.state.isPrePress := by
    cases u.state <;> rfl
  have hmap (l : List Volume) : (l.findIdx fun u => u.number == v.number)
      = ((l.map Volume.number).takeWhile fun m => m ≠ v.number).length := by
    rw [findIdx_eq_length_takeWhile, List.takeWhile_map, List.length_map]
    simp [Function.comp_def, beq_eq_decide]
  have hpost : (s.postPress.findIdx fun m => m == v.number) = (s.postPress.takeWhile fun m => m ≠ v.number).length := by
    rw [findIdx_eq_length_takeWhile]
    simp [beq_eq_decide]
  simp only [hpre]
  unfold State.sequenceOf State.prePress
  rw [hmap, hpost]
  simp

/-- R163: the six flags in one byte. -/
theorem volumeFlags_eq_pack (v : Volume) :
    let bit := fun (b : Bool) (n : Nat) => if b then n else 0
    volumeFlags v = pack [(1, bit v.ungauged 1 + bit v.overpressed 2 + bit v.pressFault 4 + bit v.unverified 8
      + bit v.returned 16 + bit v.outUngauged 32)] := by
  have h : ∀ a b c d e f : Bool, setByte [a, b, c, d, e, f] = pack [(1, (if a then 1 else 0) + (if b then 2 else 0)
      + (if c then 4 else 0) + (if d then 8 else 0) + (if e then 16 else 0) + if f then 32 else 0)] := by decide
  exact h ..

/-- A field list behind its presence byte. -/
def presence (x : Option (List (Nat × Nat))) : List (Nat × Nat) :=
  match x with
  | none => [(1, 0)]
  | some fs => (1, 1) :: fs

theorem optional_eq_pack {α : Type} {f : α → List Byte} {g : α → List (Nat × Nat)} (h : ∀ a, f a = pack (g a))
    (x : Option α) : optional (x.map f) = pack (presence (x.map g)) := by
  cases x with
  | none => rfl
  | some a => simp [optional, presence, h, pack_cons]

/-- R163: a finish with what goes with it. -/
def finishFields : Finish → List (Nat × Nat)
  | .fold e f1 f2 f3 f4 => [(1, 0x17), (1, e), (2, f1), (2, f2), (2, f3), (2, f4)]
  | .plain => [(1, 0x18)]
  | .bare .spineGrowth => [(1, 0x19), (1, 0x18)]
  | .bare .flapShort => [(1, 0x19), (1, 0x19)]
  | .bare .noJacket => [(1, 0x19), (1, 0x1A)]

theorem finishBytes_eq_pack (f : Finish) : finishBytes f = pack (finishFields f) := by
  cases f with
  | fold => rfl
  | plain => rfl
  | bare why => cases why <;> rfl

/-- R163: the reason of a divert mark. -/
def markFields : DivertMark → List (Nat × Nat)
  | .misfit => [(1, 0x14)]
  | .noJaw => [(1, 0x15)]

/-- R62: the record of a volume, its bind part, its sequence and depth given. -/
theorem State.volumeFields_eq_pack (s : State) (v : Volume) :
    let bit := fun (b : Bool) (n : Nat) => if b then n else 0
    s.volumeFields v = pack ([(1, v.number), (4, v.serial), (3, v.title), (3, v.unit), (1, volumeStateCode v.state),
        (2, v.raw), (1, v.caseWaits), (1, v.jacketWaits)]
      ++ presence (v.bound.map fun b => [(2, b.tBlk)]) ++ presence (v.bound.map fun b => [(1, fitCode b.fit)])
      ++ presence (v.bound.map fun b => [(2, b.wBook)]) ++ presence ((v.bound.bind BindPart.mark).map markFields)
      ++ presence (v.caseTag.map fun t => [(3, t.title), (3, t.number)]) ++ presence (v.bay.map fun b => [(1, b)])
      ++ presence (v.dwell.map fun d => [(2, d)]) ++ presence (v.tOut.map fun d => [(2, d)])
      ++ presence (v.finish.map finishFields)
      ++ [(1, bit v.ungauged 1 + bit v.overpressed 2 + bit v.pressFault 4 + bit v.unverified 8 + bit v.returned 16
        + bit v.outUngauged 32), (1, (s.sequenceOf v).1)]
      ++ presence ((s.sequenceOf v).2.map fun d => [(1, d)])) := by
  have hone {α : Type} (w : Nat) (f : α → Nat) (x : Option α) :
      optional (x.map fun a => le w (f a)) = pack (presence (x.map fun a => [(w, f a)])) :=
    optional_eq_pack (fun a => by simp [pack_cons]) x
  have htag : optional (v.caseTag.map tagBytes) = pack (presence (v.caseTag.map fun t => [(3, t.title), (3, t.number)])) :=
    optional_eq_pack (fun t => by simp [tagBytes, pack_cons]) _
  have hmark : optional ((v.bound.bind BindPart.mark).map fun m => le 1 (reasonByte (some (markReason m))))
      = pack (presence ((v.bound.bind BindPart.mark).map markFields)) :=
    optional_eq_pack (fun m => by cases m <;> rfl) _
  unfold State.volumeFields
  rw [hone 2 BindPart.tBlk, hone 1 fun b : BindPart => fitCode b.fit, hone 2 BindPart.wBook, hmark, htag,
    hone 1 fun b : Nat => b, hone 2 fun d : Nat => d, hone 2 fun d : Nat => d,
    optional_eq_pack finishBytes_eq_pack, volumeFlags_eq_pack, hone 1 fun d : Nat => d]
  simp only [pack_append, pack_cons, pack_nil, List.append_assoc, List.append_nil]

theorem find?_serial_of_mem {vs : List Volume} (h : (vs.map Volume.serial).Nodup) {v : Volume} (hv : v ∈ vs) :
    (vs.find? fun u => u.serial == v.serial) = some v := by
  induction vs with
  | nil => cases hv
  | cons u vs ih =>
    rw [List.map_cons, List.nodup_cons] at h
    obtain ⟨hu, hvs⟩ := h
    rw [List.find?_cons]
    obtain rfl | hv := List.mem_cons.1 hv
    · simp
    · have hne : u.serial ≠ v.serial := fun e => hu (e ▸ List.mem_map_of_mem hv)
      rw [beq_false_of_ne hne]
      exact ih hvs hv

/-- Settles O41: the refusals by the number and the slot, and the record as it is read back. -/
theorem volumeRequests : Obligations.VolumeRequests := by
  unfold Obligations.VolumeRequests
  refine ⟨fun s h => ⟨fun n hn => ?_, fun n hn hfree => ?_, fun x hfree => ?_, fun v hv hs => ?_⟩,
    fun s n h => ⟨fun hn => ?_, fun hn hfree => ?_, fun v hn hv => ⟨fun hst => ?_, fun hst => ?_⟩⟩⟩
  · exact congrArg Host.Outcome.next (State.request_of_taken s h (onVolume_of_gt hn _))
  · have hnone : s.taken.volume? n = none := List.find?_eq_none.2 fun v hv => by simpa using hfree v hv
    exact congrArg Host.Outcome.next (State.request_of_taken s h (onVolume_of_free hn hnone _))
  · have hnone : (s.taken.volumes.find? fun v => v.serial == x) = none :=
      List.find?_eq_none.2 fun v hv => by simpa using hfree v hv
    refine congrArg Host.Outcome.next (State.request_of_taken s h ?_)
    unfold findVolumeRequest
    rw [hnone]
    rfl
  · have hnumber : v.number ≤ 63 := Nat.le_of_lt_succ (hs.volumeNumbers v hv)
    have hfound : s.taken.volume? v.number = some v := State.volume?_of_mem hs.volumeNumbersDistinct hv
    have hserial : (s.taken.volumes.find? fun u => u.serial == v.serial) = some v :=
      find?_serial_of_mem hs.serialsDistinct hv
    have hfields := s.volumeFields_eq_pack v
    rw [s.sequenceOf_eq v] at hfields
    constructor
    · refine congrArg Host.Outcome.next (State.request_of_taken s h ((onVolume_of_volume hnumber hfound _).trans ?_))
      exact congrArg (fun bytes => (s.taken, okAnswer .volumeRead bytes)) hfields
    · refine congrArg Host.Outcome.next (State.request_of_taken s h ?_)
      unfold findVolumeRequest
      rw [hserial]
      exact congrArg (fun bytes => (s.taken, okAnswer .volumeFind (le 1 v.number ++ bytes))) hfields
  · exact congrArg Host.Outcome.next (State.request_of_taken s h (onVolume_of_gt hn _))
  · exact congrArg Host.Outcome.next (State.request_of_taken s h (onVolume_of_free (s := s.taken) hn hfree _))
  · refine congrArg Host.Outcome.next (State.request_of_taken s h ((onVolume_of_volume (s := s.taken) hn hv _).trans ?_))
    rw [if_neg hst]
    rfl
  · refine congrArg Host.Outcome.next (State.request_of_awaiting h
      ((onVolume_of_volume (s := s.taken) hn hv _).trans (if_pos hst)) ?_)
    simp [State.taken]

/-! ### BAY_SERVICE and BAY_READ -/

theorem pendingFlags_eq_pack (r : Bay) : pendingFlags r
    = pack [(1, (if r.faultPending then 1 else 0) + if r.servicePending then 2 else 0)] := by
  have h : ∀ a b : Bool, setByte [a, b] = pack [(1, (if a then 1 else 0) + if b then 2 else 0)] := by decide
  exact h _ _

theorem serviceRequest_of_gt {b : Nat} (h : 15 < b) (d : Nat) : serviceRequest b d s = (s, refuse .bayService .badValue) := by
  unfold serviceRequest
  rw [if_neg (show ¬ b < Config.bayCount from by simp only [Config.bayCount]; omega)]

theorem serviceRequest_of_bay {b : Nat} {r : Bay} (h : b ≤ 15) (hb : s.bays[b]? = some r) (d : Nat) : serviceRequest b d s =
    if 1 < d then (s, refuse .bayService .form)
    else (serviceBay b r (d == 1) s, okAnswer .bayService (serviceFields b (serviceBay b r (d == 1) s))) := by
  unfold serviceRequest
  rw [if_pos (show b < Config.bayCount from by simp only [Config.bayCount]; omega), show s.bay? b = some r from hb]

theorem serviceFields_of_bay {b : Nat} {r : Bay} (hb : s.bays[b]? = some r) : serviceFields b s =
    pack [(1, bayStateCode r.state), (1, (if r.faultPending then 1 else 0) + if r.servicePending then 2 else 0)] := by
  unfold serviceFields
  rw [show s.bay? b = some r from hb]
  dsimp only
  rw [pendingFlags_eq_pack]
  rfl

/-- R124: the answer of a BAY_SERVICE that leaves this record. -/
def serviceAnswer (r : Bay) : Answer := ⟨0x4E, .ok, none, pack [(1, bayStateCode r.state),
  (1, (if r.faultPending then 1 else 0) + if r.servicePending then 2 else 0)]⟩

theorem State.repace_setBay_bays {b : Nat} {r : Bay} (hb : s.bays[b]? = some r) (r' : Bay) :
    ((s.setBay b r').repace).bays[b]? = some r' := by
  obtain ⟨hlt, -⟩ := List.getElem?_eq_some_iff.1 hb
  simp [hlt]

/-- R122, R123: a request that leaves the bay's record `r'` and has the pace computed anew. -/
theorem exec_bayService_of_setBay {b d : Nat} {r r' : Bay} (h : s.Awaiting) (hle : b ≤ 15) (hb : s.bays[b]? = some r)
    (hd : d ≤ 1) (hservice : serviceBay b r (d == 1) s.taken = (s.taken.setBay b r').repace) :
    exec (.bayService b d) s = .next (State.answered (serviceAnswer r') (s.taken.setBay b r').repace) := by
  refine congrArg Host.Outcome.next (State.request_of_awaiting h ?_ (by simp [State.taken]))
  rw [serviceRequest_of_bay (s := s.taken) hle hb d, if_neg (by omega), hservice,
    serviceFields_of_bay (State.repace_setBay_bays (s := s.taken) hb r')]
  rfl

theorem exec_bayService_out {b : Nat} {r : Bay} (h : s.Awaiting) (hle : b ≤ 15) (hb : s.bays[b]? = some r) :
    exec (.bayService b 0) s = .next (State.answered (serviceAnswer (bayOut r)) (s.taken.setBay b (bayOut r)).repace) :=
  exec_bayService_of_setBay h hle hb (by decide) rfl

theorem exec_bayService_in {b : Nat} {r : Bay} (h : s.Awaiting) (hle : b ≤ 15) (hb : s.bays[b]? = some r)
    (hst : ¬ (r.state = .faulted ∨ r.state = .outOfService)) : exec (.bayService b 1) s
      = .next (State.answered (serviceAnswer (bayIn s.clock r)) (s.taken.setBay b (bayIn s.clock r)).repace) :=
  exec_bayService_of_setBay h hle hb le_rfl (if_neg hst)

/-- R123: a bay brought in from FAULTED or OUT_OF_SERVICE. -/
theorem exec_bayService_in_freed {b : Nat} {r : Bay} (h : s.Awaiting) (hle : b ≤ 15) (hb : s.bays[b]? = some r)
    (hst : r.state = .faulted ∨ r.state = .outOfService) :
    let t := (s.taken.setBay b (Bay.unoccupied .vacant (some s.clock))).repace.reevaluate Query.isNextMove
    ∃ r', t.bays[b]? = some r' ∧ exec (.bayService b 1) s = .next (State.answered (serviceAnswer r') t) := by
  intro t
  have hin : bayIn s.clock r = Bay.unoccupied .vacant (some s.clock) := by
    unfold bayIn
    obtain h | h := hst <;> rw [h]
  obtain ⟨hlt, -⟩ := List.getElem?_eq_some_iff.1 hb
  have hlen : t.bays.length = s.bays.length := by
    rw [(steered_reevaluate _).bays]
    simp [State.taken]
  have hbay : t.bays[b]? = some (t.bays[b]'(hlen ▸ hlt)) := List.getElem?_eq_getElem _
  refine ⟨_, hbay, congrArg Host.Outcome.next (State.request_of_awaiting h ?_ (by simp [t, State.taken]))⟩
  have hservice : serviceBay b r (1 == 1) s.taken = t := by
    simp only [serviceBay, beq_self_eq_true, if_true, if_pos hst, show s.taken.clock = s.clock from rfl, hin, t]
  rw [serviceRequest_of_bay (s := s.taken) hle hb 1, if_neg (by decide), hservice, serviceFields_of_bay hbay]
  rfl

theorem bayOut_of_occupied {r : Bay} (h : r.state = .reserved ∨ r.state = .closed ∨ r.state = .done ∨ r.state = .emptying) :
    bayOut r = { r with servicePending := true } := by
  obtain h | h | h | h := h <;> simp [bayOut, h]

theorem bayIn_of_occupied {r : Bay} (clock : Nat)
    (h : r.state = .reserved ∨ r.state = .closed ∨ r.state = .done ∨ r.state = .emptying) :
    bayIn clock r = { r with servicePending := false } := by
  obtain h | h | h | h := h <;> simp [bayIn, h]

theorem readBayRequest_of_gt {b : Nat} (h : 15 < b) : readBayRequest b s = (s, refuse .bayRead .badValue) := by
  unfold readBayRequest
  rw [if_neg (show ¬ b < Config.bayCount from by simp only [Config.bayCount]; omega)]

theorem readBayRequest_of_bay {b : Nat} {r : Bay} (h : b ≤ 15) (hb : s.bays[b]? = some r) :
    readBayRequest b s = (s, okAnswer .bayRead (s.bayFields b r)) := by
  unfold readBayRequest
  rw [if_pos (show b < Config.bayCount from by simp only [Config.bayCount]; omega), show s.bay? b = some r from hb]

/-- A number behind its presence byte. -/
def presenceOf (w : Nat) (x : Option Nat) : List (Nat × Nat) :=
  match x with
  | none => [(1, 0)]
  | some n => [(1, 1), (w, n)]

theorem optional_le (w : Nat) (x : Option Nat) : optional (x.map (le w)) = pack (presenceOf w x) := by
  cases x <;> simp [optional, presenceOf, pack_cons]

theorem State.bayFields_eq_pack {b : Nat} {g : Option JawGroup} (hg : s.profile.assignment[b]? = some g) (r : Bay) :
    s.bayFields b r = pack ([(1, groupCode g), (1, bayStateCode r.state)] ++ presenceOf 1 r.volume
      ++ presenceOf 6 r.vacated ++ presenceOf 6 r.closedAt ++ presenceOf 6 r.expiry
      ++ [(1, (if r.faultPending then 1 else 0) + if r.servicePending then 2 else 0), (6, s.clock)]) := by
  have hassign : s.assignmentOf b = g := by simp [State.assignmentOf, hg]
  have htime (x : Option Nat) : optional (x.map timeBytes) = pack (presenceOf 6 x) := optional_le 6 x
  unfold State.bayFields
  rw [hassign, htime, htime, htime, show (fun n => le 1 n) = le 1 from rfl, optional_le, pendingFlags_eq_pack]
  simp only [pack_append, pack_cons, pack_nil, timeBytes, List.append_assoc, List.append_nil]

/-- Settles O42: the record a BAY_SERVICE leaves in each state of the bay, then the two forms of BAY_READ. -/
theorem bayRequests : Obligations.BayRequests := by
  unfold Obligations.BayRequests
  refine ⟨fun s b r h hle hb => ⟨fun hst => ?_, fun hst => ?_, fun hst => ?_, fun hst => ?_, fun hst => ?_, fun hst => ?_,
      exec_bayService_in_freed h hle hb, fun d hd => ?_⟩,
    fun s h => ⟨fun b hb => ⟨?_, fun d => ?_⟩, fun b r g hle hb hg => ?_, ?_⟩⟩
  · have hout : bayOut r = { r with state := .outOfService, vacated := none } := by simp [bayOut, hst]
    exact hout ▸ exec_bayService_out h hle hb
  · have hout : bayOut r = { r with state := .outOfService } := by simp [bayOut, hst]
    exact hout ▸ exec_bayService_out h hle hb
  · have hout : bayOut r = r := by simp [bayOut, hst]
    have := exec_bayService_out h hle hb
    rw [hout] at this
    exact this
  · rw [exec_bayService_out h hle hb, bayOut_of_occupied hst]
    rfl
  · have hin : bayIn s.clock r = r := by simp [bayIn, hst]
    have := exec_bayService_in h hle hb (by simp [hst])
    rw [hin] at this
    exact this
  · rw [exec_bayService_in h hle hb (by rintro (e | e) <;> simp [e] at hst), bayIn_of_occupied _ hst]
    rfl
  · refine congrArg Host.Outcome.next (State.request_of_taken s h
      ((serviceRequest_of_bay (s := s.taken) hle hb d).trans (if_pos hd)))
  · exact congrArg Host.Outcome.next (State.request_of_taken s h (readBayRequest_of_gt hb))
  · exact congrArg Host.Outcome.next (State.request_of_taken s h (serviceRequest_of_gt hb d))
  · refine congrArg Host.Outcome.next (State.request_of_taken s h
      ((readBayRequest_of_bay (s := s.taken) hle hb).trans ?_))
    exact congrArg (fun bytes => (s.taken, okAnswer .bayRead bytes)) (State.bayFields_eq_pack hg r)
  · refine congrArg Host.Outcome.next (State.request_of_taken s h ?_)
    refine congrArg (fun bytes => (s.taken, okAnswer .bayRead bytes)) (?_ : s.bankFields = _)
    simp only [State.bankFields, pack_append, pack_map, pack_cons, pack_nil, timeBytes, List.append_assoc,
      List.append_nil]

end Sys2Proof.Machine

/-! SUPPORT. The reports as they are applied (R84, R99, R100, R113, R116 to R120, R136, R145, R168), and how queries are
evaluated and evaluated again (R97, R110, R134, R144, R170). -/

namespace Sys2Proof.Machine

variable {s : State}

/-! ### The head of the report queue -/

theorem State.applyHead_of_head {p : Posted} {rest : List Posted} {f : State → State}
    {effect : Report → Option (State → State)} (h : s.reports = p :: rest) (hf : effect p.report = some f) :
    s.applyHead effect = (f { s with reports := rest }).reportApplied p.line := by
  unfold State.applyHead
  rw [h]
  dsimp only
  rw [hf]

/-- R168: the command that applies a report takes the report at the head of the queue. -/
theorem exec_applied {c : Instr} {effect : Report → Option (State → State)} (hc : ∀ u, exec c u = .next (u.applyHead effect))
    {l : Line} {r : Report} {rest : List Posted} {f : State → State} (hf : effect r = some f)
    (h : s.reports = ⟨l, r⟩ :: rest) : exec c s = .next ((f { s with reports := rest }).reportApplied l) :=
  (hc s).trans (congrArg Host.Outcome.next (State.applyHead_of_head h hf))

section
variable {l : Line} {rest : List Posted}

theorem exec_caseSeenApplied {tag : Tag} (h : s.reports = ⟨l, .caseSeen tag⟩ :: rest) : exec .caseSeenApplied s
    = .next ((applyCaseSeen tag { s with reports := rest }).reportApplied l) := exec_applied (fun _ => rfl) rfl h

theorem exec_jacketSeenApplied {tag : Tag} (h : s.reports = ⟨l, .jacketSeen tag⟩ :: rest) : exec .jacketSeenApplied s
    = .next ((applyJacketSeen tag { s with reports := rest }).reportApplied l) := exec_applied (fun _ => rfl) rfl h

theorem exec_casedApplied {n : Nat} (h : s.reports = ⟨l, .cased n⟩ :: rest) : exec .casedApplied s
    = .next ((applyCased n { s with reports := rest }).reportApplied l) := exec_applied (fun _ => rfl) rfl h

theorem exec_caseSpoiledApplied {n : Nat} (h : s.reports = ⟨l, .caseSpoiled n⟩ :: rest) : exec .caseSpoiledApplied s
    = .next ((applyCaseSpoiled n { s with reports := rest }).reportApplied l) := exec_applied (fun _ => rfl) rfl h

theorem exec_deliveredApplied {n : Nat} (h : s.reports = ⟨l, .delivered n⟩ :: rest) : exec .deliveredApplied s
    = .next ((applyDelivered n { s with reports := rest }).reportApplied l) := exec_applied (fun _ => rfl) rfl h

theorem exec_bayClosedApplied {b : Nat} (h : s.reports = ⟨l, .bayClosed b⟩ :: rest) : exec .bayClosedApplied s
    = .next ((applyBayClosed b { s with reports := rest }).reportApplied l) := exec_applied (fun _ => rfl) rfl h

theorem exec_bayClearedApplied {b : Nat} (h : s.reports = ⟨l, .bayCleared b⟩ :: rest) : exec .bayClearedApplied s
    = .next ((applyBayCleared b { s with reports := rest }).reportApplied l) := exec_applied (fun _ => rfl) rfl h

theorem exec_bayFaultApplied {b : Nat} (h : s.reports = ⟨l, .bayFault b⟩ :: rest) : exec .bayFaultApplied s
    = .next ((applyBayFault b { s with reports := rest }).reportApplied l) := exec_applied (fun _ => rfl) rfl h

end

/-! ### Pieces that join a window -/

theorem State.caseTagInUse_eq (tag : Tag) : s.caseTagInUse tag = decide (tag ∈ s.tagsInUse) := by
  rw [Bool.eq_iff_iff, State.caseTagInUse_iff, decide_eq_true_iff]

theorem State.jacketTagInUse_eq (tag : Tag) : s.jacketTagInUse tag
    = decide (tag.number ≠ 0 ∧ (⟨tag, false⟩ : WindowEntry) ∈ s.jacketWindow) := by
  have hmem : (s.jacketWindow.any fun e => !e.double && e.tag == tag) = true
      ↔ (⟨tag, false⟩ : WindowEntry) ∈ s.jacketWindow := by
    simp only [List.any_eq_true, Bool.and_eq_true, Bool.not_eq_true', beq_iff_eq]
    constructor
    · rintro ⟨⟨_, _⟩, hmem, rfl, rfl⟩
      exact hmem
    · exact fun h => ⟨_, h, rfl, rfl⟩
  rw [Bool.eq_iff_iff, State.jacketTagInUse, Bool.and_eq_true, hmem]
  simp

theorem applyCaseSeen_of_room (tag : Tag) (h : s.caseWindow.length < 8) : applyCaseSeen tag s = State.reevaluate
    Query.isCaseCall { s with caseWindow := s.caseWindow ++ [⟨tag, decide (tag ∈ s.tagsInUse)⟩] } := by
  rw [applyCaseSeen, State.caseTagInUse_eq]
  exact if_neg (Nat.not_le.2 h)

theorem applyCaseSeen_of_full (tag : Tag) (h : 8 ≤ s.caseWindow.length) : applyCaseSeen tag s = misreport s := if_pos h

theorem applyJacketSeen_of_room (tag : Tag) (h : s.jacketWindow.length < 4) : applyJacketSeen tag s = State.reevaluate
    Query.isFoldCall { s with jacketWindow := s.jacketWindow ++
      [⟨tag, decide (tag.number ≠ 0 ∧ (⟨tag, false⟩ : WindowEntry) ∈ s.jacketWindow)⟩] } := by
  rw [applyJacketSeen, State.jacketTagInUse_eq]
  exact if_neg (Nat.not_le.2 h)

theorem applyJacketSeen_of_full (tag : Tag) (h : 4 ≤ s.jacketWindow.length) : applyJacketSeen tag s = misreport s :=
  if_pos h

/-- Settles O17. -/
theorem seenPiecesJoinWindows : Obligations.SeenPiecesJoinWindows := by
  unfold Obligations.SeenPiecesJoinWindows
  refine ⟨fun s l tag rest h => ⟨fun hroom => ?_, fun hfull => ?_⟩, fun s l tag rest h => ⟨fun hroom => ?_, fun hfull => ?_⟩⟩
  · rw [exec_caseSeenApplied h, applyCaseSeen_of_room (s := { s with reports := rest }) tag hroom]
    rfl
  · rw [exec_caseSeenApplied h, applyCaseSeen_of_full (s := { s with reports := rest }) tag hfull]
    rfl
  · rw [exec_jacketSeenApplied h, applyJacketSeen_of_room (s := { s with reports := rest }) tag hroom]
  · rw [exec_jacketSeenApplied h, applyJacketSeen_of_full (s := { s with reports := rest }) tag hfull]
    rfl

/-! ### Reports that name a volume or a bay -/

theorem State.onVolumeIn_of_fit {n : Nat} {st : VolumeState} {v : Volume} (hv : s.volume? n = some v) (hst : v.state = st)
    (effect : Volume → State → State) : s.onVolumeIn n st effect = effect v s := by
  unfold State.onVolumeIn
  rw [hv]
  exact if_pos hst

theorem State.onVolumeIn_of_misfit {n : Nat} {st : VolumeState} (h : ∀ v, s.volume? n = some v → v.state ≠ st)
    (effect : Volume → State → State) : s.onVolumeIn n st effect = misreport s := by
  unfold State.onVolumeIn
  split
  · rfl
  · next v hv => exact if_neg (h v hv)

theorem applyBayClosed_of_misfit {b : Nat} (h : ∀ r, s.bays[b]? = some r → r.state ≠ .reserved) :
    applyBayClosed b s = misreport s := by
  unfold applyBayClosed
  split
  · rfl
  · next r hr => exact if_neg (h r hr)

theorem applyBayCleared_of_misfit {b : Nat} (h : ∀ r, s.bays[b]? = some r → r.state ≠ .emptying) :
    applyBayCleared b s = misreport s := by
  unfold applyBayCleared
  split
  · rfl
  · next r hr => exact if_neg (h r hr)

/-- Settles O18. -/
theorem volumeReportsApply : Obligations.VolumeReportsApply := by
  unfold Obligations.VolumeReportsApply
  intro s l n v rest hv
  obtain ⟨-, hn⟩ := State.mem_of_volume? hv
  refine ⟨fun h hst => ?_, fun h hst => ?_, fun h hst => ?_⟩
  · rw [exec_casedApplied h, applyCased, State.onVolumeIn_of_fit (s := { s with reports := rest }) hv hst, hn]
    rfl
  · rw [exec_caseSpoiledApplied h, applyCaseSpoiled, State.onVolumeIn_of_fit (s := { s with reports := rest }) hv hst]
  · rw [exec_deliveredApplied h, applyDelivered, State.onVolumeIn_of_fit (s := { s with reports := rest }) hv hst]
    rfl

/-- Settles O19. -/
theorem misreportsChangeNothing : Obligations.MisreportsChangeNothing := by
  unfold Obligations.MisreportsChangeNothing
  refine fun s l n rest => ⟨fun hnone => ?_, fun h hmis => ?_, fun h hmis => ?_, fun h hmis => ?_, fun h hmis => ?_,
    fun h hmis => ?_⟩
  · obtain e | ⟨q, k, e, -⟩ := State.reportApplied_cases (State.raise .misreport { s with reports := rest }) l
    · exact e
    · exact absurd e (hnone q k)
  · rw [exec_casedApplied h, applyCased, State.onVolumeIn_of_misfit (s := { s with reports := rest }) hmis]
    rfl
  · rw [exec_caseSpoiledApplied h, applyCaseSpoiled, State.onVolumeIn_of_misfit (s := { s with reports := rest }) hmis]
    rfl
  · rw [exec_deliveredApplied h, applyDelivered, State.onVolumeIn_of_misfit (s := { s with reports := rest }) hmis]
    rfl
  · rw [exec_bayClosedApplied h, applyBayClosed_of_misfit (s := { s with reports := rest }) hmis]
    rfl
  · rw [exec_bayClearedApplied h, applyBayCleared_of_misfit (s := { s with reports := rest }) hmis]
    rfl

/-! ### Bays closed, cleared and faulted -/

theorem State.bayDwell_of_volume {r : Bay} {n d : Nat} {v : Volume} (hn : r.volume = some n) (hv : s.volume? n = some v)
    (hd : v.dwell = some d) : s.bayDwell r = 100 * d := by
  simp [State.bayDwell, hn, hv, hd, Nat.mul_comm]

theorem State.updBayVolume_of_volume {r : Bay} {n : Nat} (hn : r.volume = some n) (f : Volume → Volume) :
    s.updBayVolume r f = s.updVolume n f := by
  simp [State.updBayVolume, hn]

/-- R116, R134: the steps of a bay emptied. -/
theorem applyBayCleared_of_emptying {b n : Nat} {r : Bay} (hb : s.bays[b]? = some r) (hst : r.state = .emptying)
    (hn : r.volume = some n) : applyBayCleared b s =
      let t := (s.setBay b (emptiedBay s.clock r)).updVolume n fun v => { v with state := .onOutfeed, bay := none }
      let t := (if r.faultPending then t.levelRises .bayFault s.anyFaulted else t).repace
      (if (emptiedBay s.clock r).state = .vacant then t.reevaluate Query.isNextMove else t).reevaluateGauge := by
  simp only [applyBayCleared, show s.bay? b = some r from hb, hst, if_true, State.updBayVolume_of_volume hn]

/-- Settles O20. -/
theorem baysClosedAndCleared : Obligations.BaysClosedAndCleared := by
  unfold Obligations.BaysClosedAndCleared
  refine ⟨fun s l b n d r v rest h hb hst hn hv hd => ?_, fun s l b n r rest h hb hst hn =>
    ⟨fun hfault => ?_, fun hfault hservice => ?_, fun hfault hservice => ?_⟩⟩
  · have hdwell : State.bayDwell { s with reports := rest } r = 100 * d := State.bayDwell_of_volume hn hv hd
    rw [exec_bayClosedApplied h]
    simp only [applyBayClosed, show State.bay? { s with reports := rest } b = some r from hb, hst, if_true, hdwell,
      State.updBayVolume_of_volume hn]
    rfl
  all_goals rw [exec_bayClearedApplied h, applyBayCleared_of_emptying (s := { s with reports := rest }) hb hst hn]
  · simp [hfault, emptiedBay, Bay.unoccupied]
    rfl
  · simp [hfault, hservice, emptiedBay, Bay.unoccupied]
    rfl
  · simp [hfault, hservice, emptiedBay, Bay.unoccupied]
    rfl

/-- Settles O21, by the state of the bay. -/
theorem bayFaultFitsEveryState : Obligations.BayFaultFitsEveryState := by
  unfold Obligations.BayFaultFitsEveryState
  intro s l b r rest h hb
  rw [exec_bayFaultApplied h, applyBayFault, show State.bay? { s with reports := rest } b = some r from hb]
  dsimp only
  refine ⟨fun hst => ?_, fun n hst hn => ?_, fun n hst hn => ?_, fun hst => ?_, fun hst => ?_⟩
  · rw [hst]
    rfl
  · rw [hst]
    simp only [faultReserved, State.updBayVolume_of_volume hn]
    rfl
  · rw [hst]
    simp only [faultClosed, State.updBayVolume_of_volume hn]
    rfl
  · obtain hst | hst := hst <;> rw [hst] <;> rfl
  · obtain hst | hst := hst <;> rw [hst]

end Sys2Proof.Machine

/-! SUPPORT. How queries are evaluated at their arrival, behind reports, and again (R97, R110, R134, R144, R170). -/

namespace Sys2Proof.Machine

variable {s : State}

/-! ### Slots -/

theorem modify_eq_self {α : Type} {f : α → α} {l : List α} {n : Nat} (h : ∀ a, l[n]? = some a → f a = a) :
    l.modify n f = l := by
  refine List.ext_getElem? fun m => ?_
  rw [List.getElem?_modify]
  by_cases hm : n = m
  · subst hm
    cases e : l[n]? with
    | none => simp
    | some a => simp [h a e]
  · simp [hm]

/-- R170: a slot given the state it has. -/
theorem State.setSlot_of_same {l : Line} {x : Slot} (h : (s.station l).slot = x) : s.setSlot l x = s := by
  have hsame : s.stations.modify l.val (fun r => { r with slot := x }) = s.stations := by
    refine modify_eq_self fun r hr => ?_
    have hr' : s.station l = r := by simp [State.station, List.getD_eq_getElem?_getD, hr]
    rw [← h, hr']
  simp only [State.setSlot, State.updStation, hsame]

theorem heldIn_eq_some {x : Slot} {h : HeldQuery} (e : heldIn x = some h) : x = .held h := by
  unfold heldIn at e
  split at e
  · rw [Option.some.inj e]
  · cases e

theorem State.slot_of_heldQuery {kind : Query → Bool} {l : Line} {h : HeldQuery} (e : s.heldQuery kind = some (l, h)) :
    (s.station l).slot = .held h := by
  obtain ⟨m, -, hm⟩ := List.exists_of_findSome?_eq_some e
  split at hm
  · next q hq =>
    split at hm
    · obtain ⟨rfl, rfl⟩ := Prod.mk.inj (Option.some.inj hm)
      exact heldIn_eq_some hq
    · cases hm
  · cases hm

/-! ### Evaluations -/

theorem State.afterFront_of_same {t : State} (h : t.jacketerFront = s.jacketerFront) : t.afterFront s = t := by
  unfold State.afterFront
  rw [h]
  cases s.jacketerFront <;> rfl

theorem State.evaluate_of_none {l : Line} {h : HeldQuery} {last : Bool} (e : evalQuery h.query last s = none) :
    s.evaluate l h last = s.setSlot l (.held h) := by
  unfold State.evaluate
  rw [e]
  exact State.afterFront_of_same rfl

theorem State.evaluate_of_some {l : Line} {h : HeldQuery} {last : Bool} {t : State} {a : Answer}
    (e : evalQuery h.query last s = some (t, a)) : s.evaluate l h last = (t.answerSlot l a).afterFront s := by
  unfold State.evaluate
  rw [e]
  rfl

theorem State.reevaluate_of_none {kind : Query → Bool} {l : Line} {h : HeldQuery} (hq : s.heldQuery kind = some (l, h))
    (e : evalQuery h.query false s = none) : s.reevaluate kind = s := by
  unfold State.reevaluate
  rw [hq]
  dsimp only
  rw [e]
  exact State.setSlot_of_same (State.slot_of_heldQuery hq)

theorem State.reevaluate_of_some {kind : Query → Bool} {l : Line} {h : HeldQuery} {t : State} {a : Answer}
    (hq : s.heldQuery kind = some (l, h)) (e : evalQuery h.query false s = some (t, a)) :
    s.reevaluate kind = t.answerSlot l a := by
  unfold State.reevaluate
  rw [hq]
  dsimp only
  rw [e]
  rfl

theorem State.takeQuery_at_once {l : Line} (hslot : (s.station l).slot = .empty) (k : Kind) (q : Query) :
    s.takeQuery l k q 0 = s.evaluate l ⟨q, s.clock, s.profile.holdLimit⟩ false := by
  unfold State.takeQuery
  rw [hslot]
  rfl

section
variable {l : Line}

theorem exec_caseCall (h : s.Asks l .caseCall) :
    exec (.caseCall l) s = .next (s.evaluate l ⟨.caseCall, s.clock, s.profile.holdLimit⟩ false) := by
  obtain ⟨hhears, hslot, hposted⟩ := h
  refine congrArg Host.Outcome.next ((State.receive_of_hears hhears _).trans ?_)
  rw [hposted, State.takeQuery_at_once hslot]

theorem exec_nextMove (h : s.Asks l .nextMove) :
    exec (.nextMove l) s = .next (s.evaluate l ⟨.nextMove, s.clock, s.profile.holdLimit⟩ false) := by
  obtain ⟨hhears, hslot, hposted⟩ := h
  refine congrArg Host.Outcome.next ((State.receive_of_hears hhears _).trans ?_)
  rw [hposted, State.takeQuery_at_once hslot]

theorem exec_foldCall (h : s.Asks l .foldCall) :
    exec (.foldCall l) s = .next (s.evaluate l ⟨.foldCall, s.clock, s.profile.holdLimit⟩ false) := by
  obtain ⟨hhears, hslot, hposted⟩ := h
  refine congrArg Host.Outcome.next ((State.receive_of_hears hhears _).trans ?_)
  rw [hposted, State.takeQuery_at_once hslot]

theorem exec_gauge (hhears : s.Hears l .gauge) (hslot : (s.station l).slot = .empty) {g t n raw : Nat}
    (hgood : goodGauge g t n raw = true) : exec (.gauge l g t n raw) s
      = .next (s.evaluate l ⟨.gauge (gaugeTag g t n) raw, s.clock, s.profile.holdLimit⟩ false) := by
  refine congrArg Host.Outcome.next ((State.receive_of_hears hhears _).trans ?_)
  rw [State.checked, hgood, if_pos rfl, State.takeQuery_at_once hslot]

/-- R128: a GAUGE that read no tag, in good form whatever the tag bytes hold. -/
theorem goodGauge_untagged {raw : Nat} (h : raw ≤ 2047) (t n : Nat) : goodGauge 0 t n raw = true := by
  simp [goodGauge, goodRaw, Config.rawMax, h]

theorem goodGauge_tagged {t n raw : Nat} (h : raw ≤ 2047) (ht : t ≠ 0) (hn : n ≤ 1048575) : goodGauge 1 t n raw = true := by
  simp [goodGauge, goodRaw, goodCaseTag, Config.rawMax, Config.caseNumberMax, h, ht, hn]

end

/-- Settles O22. -/
theorem queriesBehindReportsComeUp : Obligations.QueriesBehindReportsComeUp := by
  unfold Obligations.QueriesBehindReportsComeUp
  refine ⟨fun s l h n hslot => ⟨fun hn => ?_, fun hn => ?_⟩, fun s l hnone => ?_,
    fun s l h => ⟨State.evaluate_of_none, fun t a => State.evaluate_of_some⟩,
    fun s l => ⟨exec_caseCall, exec_nextMove, exec_foldCall, fun raw hhears hslot hraw => ⟨fun t n => ?_,
      fun t n ht hn => ?_⟩⟩,
    fun s kind => ⟨s.reevaluate_none kind, fun l h hq => ⟨State.reevaluate_of_none hq, fun t a =>
      State.reevaluate_of_some hq⟩⟩, fun s => rfl⟩
  · unfold State.reportApplied
    rw [hslot]
    exact if_pos hn
  · unfold State.reportApplied
    rw [hslot]
    exact if_neg (by omega)
  · obtain e | ⟨q, k, e, -⟩ := s.reportApplied_cases l
    · exact e
    · exact absurd e (hnone q k)
  · exact exec_gauge hhears hslot (goodGauge_untagged hraw t n)
  · exact exec_gauge hhears hslot (goodGauge_tagged hraw ht hn)

end Sys2Proof.Machine

/-! SUPPORT. Frames in a stream of bytes, bad frames, and frames refused at decoding (R161, R162, R164, R165, R176). -/

namespace Sys2Proof.Machine

variable {s : State}

/-! ### Hunting for frames -/

theorem goodFrame_of_bad {len : Byte} {rest : List Byte} (h : len.toNat < 3 ∨ 40 < len.toNat ∨ rest.length < len.toNat + 1
    ∨ (len.toNat + ((rest.take (len.toNat + 1)).map BitVec.toNat).sum) % 256 ≠ 0) : goodFrame (len :: rest) = none := by
  unfold goodFrame
  dsimp only
  by_cases hlen : len.toNat < 3 ∨ 40 < len.toNat ∨ rest.length < len.toNat + 1
  · rw [if_pos hlen]
  · rw [if_neg hlen, if_pos (by tauto)]

theorem huntFrames_of_bad {bs : List Byte} (h : goodFrame bs = none) : huntFrames 0 (0xA5#8 :: bs) = huntFrames 0 bs := by
  rw [huntFrames, if_pos rfl, h]

theorem huntFrames_of_good {bs : List Byte} {f : Frame} (h : goodFrame bs = some f) :
    huntFrames 0 (0xA5#8 :: bs) = f :: huntFrames (f.body.length + 4) bs := by
  rw [huntFrames, if_pos rfl, h]

theorem huntFrames_skip (n : Nat) (bs : List Byte) : huntFrames n bs = huntFrames 0 (bs.drop n) := by
  induction n generalizing bs with
  | zero => rfl
  | succ n ih =>
    cases bs with
    | nil => rfl
    | cons b bs => rw [huntFrames, ih, List.drop_succ_cons]

theorem huntFrames_junk {junk : List Byte} (h : ∀ b ∈ junk, b ≠ 0xA5#8) (bs : List Byte) :
    huntFrames 0 (junk ++ bs) = huntFrames 0 bs := by
  induction junk with
  | nil => rfl
  | cons b junk ih =>
    rw [List.cons_append, huntFrames, if_neg (h b List.mem_cons_self)]
    exact ih fun c hc => h c (List.mem_cons_of_mem _ hc)

/-! ### A frame as it is sent -/

theorem checkByte_sum (core : List Byte) :
    ((core.map BitVec.toNat).sum + (checkByte core).toNat) % 256 = 0 := by
  unfold checkByte
  rw [BitVec.toNat_ofNat]
  omega

/-- R161, R162: a frame as it is sent is good. -/
theorem goodFrame_frameBytes {kind tag : Nat} {body : List Byte} (hk : kind < 256) (ht : tag < 256)
    (hpos : 1 ≤ body.length) (hlen : body.length ≤ 38) (rest : List Byte) : ∃ after, after.length = body.length + 4
      ∧ frameBytes kind tag body ++ rest = 0xA5#8 :: (after ++ rest)
      ∧ goodFrame (after ++ rest) = some ⟨kind, tag, body⟩ := by
  have hlenByte : (BitVec.ofNat 8 (body.length + 2)).toNat = body.length + 2 := by
    rw [BitVec.toNat_ofNat, Nat.mod_eq_of_lt (by omega)]
  have hkByte : (BitVec.ofNat 8 kind).toNat = kind := by rw [BitVec.toNat_ofNat, Nat.mod_eq_of_lt hk]
  have htByte : (BitVec.ofNat 8 tag).toNat = tag := by rw [BitVec.toNat_ofNat, Nat.mod_eq_of_lt ht]
  let core : List Byte := BitVec.ofNat 8 (body.length + 2) :: BitVec.ofNat 8 kind :: BitVec.ofNat 8 tag :: body
  refine ⟨core ++ [checkByte core], by simp [core], rfl, ?_⟩
  have hsum := checkByte_sum core
  generalize checkByte core = check at hsum ⊢
  simp only [core, List.cons_append, List.append_assoc, List.nil_append, List.map_cons, List.sum_cons, hlenByte] at hsum ⊢
  have htake : (BitVec.ofNat 8 kind :: BitVec.ofNat 8 tag :: (body ++ check :: rest)).take (body.length + 2)
      = BitVec.ofNat 8 kind :: BitVec.ofNat 8 tag :: body := by simp
  have htake' : (BitVec.ofNat 8 kind :: BitVec.ofNat 8 tag :: (body ++ check :: rest)).take (body.length + 2 + 1)
      = BitVec.ofNat 8 kind :: BitVec.ofNat 8 tag :: (body ++ [check]) := by
    simp [List.take_append]
  unfold goodFrame
  dsimp only
  rw [hlenByte, if_neg (by simp; omega), htake', if_neg, htake]
  · simp only [hkByte, htByte]
  · simp only [List.map_cons, List.sum_cons, List.map_append, List.sum_append, List.map_nil, List.sum_nil]
    omega

/-- R162: the hunt finds the frame, and goes on behind its check byte. -/
theorem huntFrames_frameBytes {kind tag : Nat} {body : List Byte} (hk : kind < 256) (ht : tag < 256)
    (hpos : 1 ≤ body.length) (hlen : body.length ≤ 38) (rest : List Byte) :
    huntFrames 0 (frameBytes kind tag body ++ rest) = ⟨kind, tag, body⟩ :: huntFrames 0 rest := by
  obtain ⟨after, hafter, e, hgood⟩ := goodFrame_frameBytes hk ht hpos hlen rest
  rw [e, huntFrames_of_good hgood, huntFrames_skip, List.drop_left' hafter]

/-! ### Frames refused -/

theorem frameFault_of_unknown {p : Port} {kind : Nat} (h : kindOfByte kind = none) (tag : Nat) (body : List Byte) :
    frameFault p kind tag body s = some .form := by
  unfold frameFault
  rw [h]

theorem execFrameRefused_station {l : Line} {kind tag : Nat} {body : List Byte} {r : Reason}
    (h : frameFault (.station l) kind tag body s = some r) : execFrameRefused (.station l) kind tag body s =
      if s.phase = .loading then .next s else .next (s.immediately l fun s => (s, refusedAnswer kind r)) := by
  unfold execFrameRefused
  rw [h]

theorem execFrameRefused_supervisor {kind tag : Nat} {body : List Byte} {r : Reason}
    (h : frameFault .supervisor kind tag body s = some r) :
    execFrameRefused .supervisor kind tag body s = .next (s.request fun s => (s, refusedAnswer kind r)) := by
  unfold execFrameRefused
  rw [h]

/-- The role that a kind's owner must have on a port: that of the line, and none on the supervisor port. -/
def portRole (s : State) (p : Port) : Option Role :=
  match p with
  | .station l => some (s.roleOf l)
  | .supervisor => none

/-- R165: the checks at decoding, in order, once the kind is known. -/
theorem frameFault_of_kind {p : Port} {kind : Nat} {k : Kind} (h : kindOfByte kind = some k) (tag : Nat)
    (body : List Byte) : frameFault p kind tag body s =
      if tag ≠ portTag p then some .form
      else if kindOwner k ≠ portRole s p then some .role
      else if (commandOf p k body).isNone then some .form else none := by
  unfold frameFault
  rw [h]
  rfl

/-- Settles O11: the bad frame by the four conditions of R162, the refused one by the first check that fails. -/
theorem badAndRefusedFrames : Obligations.BadAndRefusedFrames := by
  unfold Obligations.BadAndRefusedFrames
  refine ⟨fun len rest h => huntFrames_of_bad (goodFrame_of_bad h), fun l c s => rfl, fun c s => rfl,
    fun p kind tag body s r h => ?_⟩
  have hfault : frameFault p kind tag body s = some r := by
    obtain ⟨hk, rfl⟩ | ⟨k, hk, ⟨ht, rfl⟩ | ⟨ht, howner, rfl⟩ | ⟨ht, howner, hbody, rfl⟩⟩ := h
    · exact frameFault_of_unknown hk tag body
    · rw [frameFault_of_kind hk, if_pos ht]
    · rw [frameFault_of_kind hk, if_neg (not_not.2 ht), if_pos (show kindOwner k ≠ portRole s p from howner)]
    · rw [frameFault_of_kind hk, if_neg (not_not.2 ht), if_neg (not_not.2 (show kindOwner k = portRole s p from howner)), hbody]
      rfl
  cases p with
  | station l =>
    change (_ → execFrameRefused _ kind tag body s = _) ∧ (_ → _ → execFrameRefused _ kind tag body s = _)
      ∧ (_ → execFrameRefused _ kind tag body s = _)
    rw [execFrameRefused_station hfault]
    refine ⟨fun hphase => if_pos hphase, fun hphase hfree => ?_, fun hfree => ?_⟩
    · rw [if_neg (by simp [hphase]), State.immediately_of_free hfree]
      rfl
    · rw [State.immediately_of_not_free hfree, ite_self]
  | supervisor =>
    change (_ → execFrameRefused _ kind tag body s = _) ∧ (_ → execFrameRefused _ kind tag body s = _)
      ∧ (_ → _ → execFrameRefused _ kind tag body s = _) ∧ (∀ a n, _ → _ → execFrameRefused _ kind tag body s = _)
    rw [execFrameRefused_supervisor hfault]
    refine ⟨fun hphase => ?_, fun h => ?_, fun hphase hslot => ?_, fun a n hphase hslot => ?_⟩
    · rw [State.request_of_busy (.inl hphase), State.stateByte_of_loading hphase]
      rfl
    · exact congrArg Host.Outcome.next (State.request_of_taken s h rfl)
    · rw [State.request_of_busy (.inr (by simp [hslot])), State.stateByte_of_running hphase, hslot]
      rfl
    · rw [State.request_of_busy (.inr (by simp [hslot])), State.stateByte_of_running hphase, hslot]
      rfl

end Sys2Proof.Machine

/-! SUPPORT. The body of each message read back as its command (R161, R164, section 9.2). -/

namespace Sys2Proof.Machine

theorem kindOfByte_kindByte (k : Kind) : kindOfByte (kindByte k) = some k := by cases k <;> rfl

theorem kindByte_lt (k : Kind) : kindByte k < 256 := by cases k <;> decide

/-! ### Fields read back -/

theorem fits_iff (w n : Nat) : fits w n = true ↔ n < 256 ^ w := decide_eq_true_iff

theorem cut_le {w n : Nat} (h : fits w n = true) : cut [w] (le w n) = some [n] := by
  have := cut_pack [(w, n)] (by simpa [fits_iff] using h)
  simpa [pack] using this

theorem readOne_le {w n : Nat} (h : fits w n = true) (f : Nat → Instr) : readOne w (le w n) f = some (f n) := by
  rw [readOne, cut_le h]

theorem readTwo_pack {v w m n : Nat} (hm : fits v m = true) (hn : fits w n = true) (f : Nat → Nat → Instr) :
    readTwo v w (pack [(v, m), (w, n)]) f = some (f m n) := by
  have := cut_pack [(v, m), (w, n)] (by simpa [fits_iff] using ⟨(fits_iff _ _).1 hm, (fits_iff _ _).1 hn⟩)
  rw [readTwo, show [v, w] = [(v, m), (w, n)].map Prod.fst from rfl, this]
  rfl

/-- The front fields of a body, and what stands behind them. -/
theorem cut_take_pack (fields : List (Nat × Nat)) (h : ∀ f ∈ fields, f.2 < 256 ^ f.1) {n : Nat}
    (hn : (fields.map Prod.fst).sum = n) (rest : List Byte) :
    cut (fields.map Prod.fst) ((pack fields ++ rest).take n) = some (fields.map Prod.snd)
      ∧ (pack fields ++ rest).drop n = rest := by
  have hlen : (pack fields).length = n := (pack_length fields).trans hn
  rw [List.take_left' hlen, List.drop_left' hlen]
  exact ⟨cut_pack fields h, rfl⟩

/-! ### Jacket parts and groups -/

/-- R164: the flag before a jacket part. -/
def jacketFlag (j : Option JacketPart) : Nat := if j.isSome then 1 else 0

/-- R164: the fields behind the jacket flag. -/
def jacketFields (j : Option JacketPart) : List Byte :=
  (j.map fun j => pack [(2, j.sheet), (2, j.centre), (2, j.panel), (2, j.spine), (1, j.wrap), (1, j.growth),
    (2, j.minFlap)]).getD []

theorem jacketMessage_eq (j : Option JacketPart) : jacketMessage j = pack [(1, jacketFlag j)] ++ jacketFields j := by
  cases j <;> rfl

theorem jacketFlag_lt (j : Option JacketPart) : jacketFlag j < 256 := by cases j <;> simp [jacketFlag]

theorem readJacket_jacketFields {j : Option JacketPart} (h : (j.map JacketPart.wellFormed).getD true = true) :
    readJacket (jacketFlag j) (jacketFields j) = some j := by
  cases j with
  | none => rfl
  | some j =>
    have hcut : cut [2, 2, 2, 2, 1, 1, 2] (jacketFields (some j))
        = some [j.sheet, j.centre, j.panel, j.spine, j.wrap, j.growth, j.minFlap] :=
      cut_pack [(2, j.sheet), (2, j.centre), (2, j.panel), (2, j.spine), (1, j.wrap), (1, j.growth), (2, j.minFlap)]
        (by simpa [JacketPart.wellFormed, fits_iff, and_assoc] using h)
    unfold readJacket
    rw [if_neg (show ¬ jacketFlag (some j) = 0 from Nat.one_ne_zero), if_pos (show jacketFlag (some j) = 1 from rfl), hcut]

theorem readProcess_processMessage {p : ProcessGroup} (h : p.wellFormed = true) : readProcess (processMessage p) = some p := by
  have hcut : cut [1, 2, 1, 2] (processMessage p) = some [p.band, p.dwellBase, p.dwellSlope, p.quota] :=
    cut_pack [(1, p.band), (2, p.dwellBase), (1, p.dwellSlope), (2, p.quota)]
      (by simpa [ProcessGroup.wellFormed, fits_iff, and_assoc] using h)
  unfold readProcess
  rw [hcut]

theorem processMessage_length (p : ProcessGroup) : (processMessage p).length = 6 := pack_length _

theorem readGeometry_geometryMessage {g : GeometryGroup} (h : g.wellFormed = true) :
    readGeometry (geometryMessage g) = some g := by
  obtain ⟨⟨⟨hmarry, ht⟩, hb⟩, hj⟩ : ((fits 1 g.marry = true ∧ fits 2 g.tNom = true) ∧ fits 1 g.board = true)
      ∧ (g.jacket.map JacketPart.wellFormed).getD true = true := by
    simpa [GeometryGroup.wellFormed] using h
  have e : geometryMessage g
      = pack [(1, g.marry), (2, g.tNom), (1, g.board), (1, jacketFlag g.jacket)] ++ jacketFields g.jacket := by
    simp [geometryMessage, jacketMessage_eq, pack_cons]
  obtain ⟨hcut, hdrop⟩ := cut_take_pack [(1, g.marry), (2, g.tNom), (1, g.board), (1, jacketFlag g.jacket)]
    (by simpa [fits_iff] using ⟨(fits_iff _ _).1 hmarry, (fits_iff _ _).1 ht, (fits_iff _ _).1 hb, jacketFlag_lt _⟩)
    (n := 5) rfl (jacketFields g.jacket)
  rw [← e] at hcut hdrop
  unfold readGeometry
  rw [show [1, 2, 1, 1] = [(1, g.marry), (2, g.tNom), (1, g.board), (1, jacketFlag g.jacket)].map Prod.fst from rfl, hcut,
    hdrop]
  simp [readJacket_jacketFields hj]

theorem readTitleLoad_message {c : Nat} {g : GeometryGroup} {p : ProcessGroup} (hc : fits 3 c = true)
    (hg : g.wellFormed = true) (hp : p.wellFormed = true) : readTitleLoad
      (pack [(3, c), (1, g.marry), (2, g.tNom), (1, g.board)] ++ processMessage p ++ jacketMessage g.jacket)
      = some (.titleLoad c g p) := by
  let fields := [(3, c), (1, g.marry), (2, g.tNom), (1, g.board), (1, p.band), (2, p.dwellBase), (1, p.dwellSlope),
    (2, p.quota), (1, jacketFlag g.jacket)]
  have hj : (g.jacket.map JacketPart.wellFormed).getD true = true := by
    simp only [GeometryGroup.wellFormed, Bool.and_eq_true] at hg
    exact hg.2
  have hfields : ∀ f ∈ fields, f.2 < 256 ^ f.1 := by
    have := jacketFlag_lt g.jacket
    simp only [GeometryGroup.wellFormed, ProcessGroup.wellFormed, Bool.and_eq_true, fits_iff] at hg hp hc
    obtain ⟨⟨⟨hmarry, ht⟩, hb⟩, -⟩ := hg
    obtain ⟨⟨⟨hband, hd⟩, hk⟩, hq⟩ := hp
    simpa [fields] using ⟨hc, hmarry, ht, hb, hband, hd, hk, hq, this⟩
  have e : pack [(3, c), (1, g.marry), (2, g.tNom), (1, g.board)] ++ processMessage p ++ jacketMessage g.jacket
      = pack fields ++ jacketFields g.jacket := by
    simp [processMessage, jacketMessage_eq, pack_cons, fields]
  obtain ⟨hcut, hdrop⟩ := cut_take_pack fields hfields (n := 14) rfl (jacketFields g.jacket)
  rw [e]
  unfold readTitleLoad
  rw [show [3, 1, 2, 1, 1, 2, 1, 2, 1] = fields.map Prod.fst from rfl, hcut, hdrop]
  simp [fields, readJacket_jacketFields hj]

theorem readTitleAmend_message {c : Nat} {p : Option ProcessGroup} {g : Option GeometryGroup} (hc : fits 3 c = true)
    (hp : (p.map ProcessGroup.wellFormed).getD true = true) (hg : (g.map GeometryGroup.wellFormed).getD true = true)
    (hsome : (p.isSome || g.isSome) = true) : readTitleAmend
      (pack [(3, c), (1, groupsByte p g)] ++ (p.map processMessage).getD [] ++ (g.map geometryMessage).getD [])
      = some (.titleAmend c p g) := by
  have hgroups : groupsByte p g < 256 := by cases p <;> cases g <;> simp [groupsByte]
  obtain ⟨hcut, hdrop⟩ := cut_take_pack [(3, c), (1, groupsByte p g)] (by simpa [hgroups] using (fits_iff _ _).1 hc)
    (n := 4) rfl ((p.map processMessage).getD [] ++ (g.map geometryMessage).getD [])
  have hcut' : cut [3, 1] ((pack [(3, c), (1, groupsByte p g)] ++ ((p.map processMessage).getD []
    ++ (g.map geometryMessage).getD [])).take 4) = some [c, groupsByte p g] := hcut
  rw [List.append_assoc]
  unfold readTitleAmend
  rw [hcut', hdrop]
  cases p with
  | none =>
    cases g with
    | none => cases hsome
    | some g => simp [groupsByte, readGeometry_geometryMessage hg]
  | some p =>
    cases g with
    | none => simp [groupsByte, readProcess_processMessage hp]
    | some g =>
      have hdrop' : (pack [(3, c), (1, groupsByte (some p) (some g))] ++ (processMessage p ++ geometryMessage g)).drop 10
          = geometryMessage g := by
        rw [← List.append_assoc]
        exact List.drop_left' (by simp [pack_length, processMessage_length])
      simp only [groupsByte, Option.isSome_some, Bool.toNat_true, Option.map_some, Option.getD_some] at hdrop' ⊢
      rw [hdrop', List.take_left' (processMessage_length p), readProcess_processMessage hp, readGeometry_geometryMessage hg]

/-! ### The requests with a form byte -/

theorem readRangeRead_index {i : Nat} (h : fits 1 i = true) : readRangeRead (pack [(1, 0), (1, i)]) = some (.rangeRead (.index i)) := by
  have hcut : cut [1] ((pack [(1, 0), (1, i)]).drop 1) = some [i] := cut_le h
  unfold readRangeRead
  rw [show cut [1] ((pack [(1, 0), (1, i)]).take 1) = some [0] from rfl]
  simp only [hcut]

theorem readRangeRead_serial {n : Nat} (h : fits 4 n = true) : readRangeRead (pack [(1, 1), (4, n)]) = some (.rangeRead (.serial n)) := by
  have hcut : cut [4] ((pack [(1, 1), (4, n)]).drop 1) = some [n] := cut_le h
  unfold readRangeRead
  rw [show cut [1] ((pack [(1, 1), (4, n)]).take 1) = some [1] from rfl]
  simp only [hcut]

theorem readBayRead_bay {b : Nat} (h : fits 1 b = true) : readBayRead (pack [(1, 0), (1, b)]) = some (.bayRead (.bay b)) := by
  have hcut : cut [1] ((pack [(1, 0), (1, b)]).drop 1) = some [b] := cut_le h
  unfold readBayRead
  rw [show cut [1] ((pack [(1, 0), (1, b)]).take 1) = some [0] from rfl]
  simp only [hcut]

theorem readProfileSet_message {n : Nat} {bytes : List Byte} (hn : n ≤ 3) (hlen : bytes.length = sectionLength n) :
    readProfileSet (le 1 n ++ bytes) = some (.profileSet n bytes) := by
  have hfits : fits 1 n = true := (fits_iff 1 n).2 (by omega)
  have htake : (le 1 n ++ bytes).take 1 = le 1 n := List.take_left' (le_length 1 n)
  have hdrop : (le 1 n ++ bytes).drop 1 = bytes := List.drop_left' (le_length 1 n)
  unfold readProfileSet
  rw [htake, hdrop, cut_le hfits]
  exact if_pos ⟨hn, hlen⟩

/-! ### Every message -/

/-- R164: the body of a message is read back as the command it carries. -/
theorem commandOf_message {i : Instr} {p : Port} {k : Kind} {body : List Byte} (h : messageOf i = some ⟨p, k, body⟩)
    (hwf : i.wellFormed = true) : commandOf p k body = some i := by
  cases i with
  | caseSeen l t n | jacketSeen l t n =>
    cases h
    obtain ⟨ht, hn⟩ := Bool.and_eq_true_iff.1 hwf
    exact readTwo_pack ht hn _
  | entry l n r =>
    cases h
    obtain ⟨hn, hr⟩ := Bool.and_eq_true_iff.1 hwf
    exact readTwo_pack hn hr _
  | bayService b d =>
    cases h
    obtain ⟨hb, hd⟩ := Bool.and_eq_true_iff.1 hwf
    exact readTwo_pack hb hd _
  | cased | caseSpoiled | bayClosed | bayCleared | bayFault | delivered | titleHold | titleFree | titleRetire | titleRead
  | rangeClear | volumeRead | volumeFind | volumeWriteoff | paceSet | noticeEnable | noticeClear | profileRead =>
    cases h; exact readOne_le hwf _
  | caseCall | nextMove | foldCall | titlePurge | missRead | paceRelease | statusRead | noticeRead | profileSave
  | lineClear => cases h; rfl
  | gauge l g t n r =>
    cases h
    have hcut : cut [1, 3, 3, 2] (pack [(1, g), (3, t), (3, n), (2, r)]) = some [g, t, n, r] :=
      cut_pack [(1, g), (3, t), (3, n), (2, r)] (by simpa [Instr.wellFormed, fits_iff, and_assoc] using hwf)
    simp only [commandOf, stationCommand, hcut]
  | rangeSet i b k c u =>
    cases h
    have hcut : cut [1, 4, 1, 3, 3] (pack [(1, i), (4, b), (1, k), (3, c), (3, u)]) = some [i, b, k, c, u] :=
      cut_pack [(1, i), (4, b), (1, k), (3, c), (3, u)] (by simpa [Instr.wellFormed, fits_iff, and_assoc] using hwf)
    simp only [commandOf, supervisorCommand, hcut]
  | titleLoad c g p =>
    cases h
    simp only [Instr.wellFormed, Bool.and_eq_true] at hwf
    obtain ⟨⟨hc, hg⟩, hp⟩ := hwf
    exact readTitleLoad_message hc hg hp
  | titleAmend c p g =>
    cases h
    simp only [Instr.wellFormed, Bool.and_eq_true] at hwf
    obtain ⟨⟨⟨hc, hp⟩, hg⟩, hsome⟩ := hwf
    exact readTitleAmend_message hc hp hg hsome
  | rangeRead q =>
    cases q with
    | index i => cases h; exact readRangeRead_index hwf
    | serial n => cases h; exact readRangeRead_serial hwf
  | bayRead q =>
    cases q with
    | bay b => cases h; exact readBayRead_bay hwf
    | bank => cases h; rfl
  | profileSet n bytes =>
    cases h
    simp only [Instr.wellFormed, Bool.and_eq_true, decide_eq_true_iff] at hwf
    exact readProfileSet_message hwf.1 hwf.2
  | _ => cases h

theorem jacketMessage_length_le (j : Option JacketPart) : 1 ≤ (jacketMessage j).length ∧ (jacketMessage j).length ≤ 13 := by
  cases j <;> simp [jacketMessage, pack_length]

theorem geometryMessage_length_le (g : GeometryGroup) : (geometryMessage g).length ≤ 17 := by
  obtain ⟨-, h⟩ := jacketMessage_length_le g.jacket
  rw [geometryMessage, List.length_append, pack_length]
  simp only [List.map_cons, List.map_nil, List.sum_cons, List.sum_nil]
  omega

/-- R161: a message fits a frame. -/
theorem message_length {i : Instr} {m : Message} (h : messageOf i = some m) (hwf : i.wellFormed = true) :
    1 ≤ m.body.length ∧ m.body.length ≤ 38 := by
  cases i with
  | titleLoad c g p =>
    cases h
    obtain ⟨-, hj⟩ := jacketMessage_length_le g.jacket
    simp only [List.length_append, pack_length, processMessage_length, List.map_cons, List.map_nil, List.sum_cons,
      List.sum_nil]
    omega
  | titleAmend c p g =>
    cases h
    have hp : ((p.map processMessage).getD []).length ≤ 6 := by cases p <;> simp [processMessage_length]
    have hg : ((g.map geometryMessage).getD []).length ≤ 17 := by
      cases g with
      | none => simp
      | some g => exact geometryMessage_length_le g
    simp only [List.length_append, pack_length, List.map_cons, List.map_nil, List.sum_cons, List.sum_nil]
    omega
  | profileSet n bytes =>
    cases h
    simp only [Instr.wellFormed, Bool.and_eq_true, decide_eq_true_iff] at hwf
    obtain ⟨hn, hlen⟩ := hwf
    have hle : sectionLength n ≤ 36 := by
      match n, hn with
      | 0, _ | 1, _ | 2, _ | 3, _ => decide
    rw [List.length_append, le_length]
    omega
  | rangeRead q => cases q <;> cases h <;> simp [pack_length]
  | bayRead q => cases q <;> cases h <;> simp [pack_length]
  | deviceReset | profileLoad | badFrame | frameRefused | answerSend | answerCollision | answerRead | caseSeenApplied
  | casedApplied | caseSpoiledApplied | bayClosedApplied | bayClearedApplied | bayFaultApplied | jacketSeenApplied
  | deliveredApplied | holdLimitExpiry | dwellExpiry | overdwellExpiry | idleTimerExpiry | recoveryPeriodEnd
  | glueReadyChange | platenLowChange | platenColdChange | guardOpenChange | profileSaveDone | profileSaveFailed => cases h
  | _ => cases h; simp [pack_length]

theorem portTag_lt (p : Port) : portTag p < 256 := by
  cases p with
  | station l => exact Nat.lt_of_lt_of_le (Nat.succ_lt_succ l.isLt) (by decide)
  | supervisor => decide

/-- R165: the frame of a message brings its command. -/
theorem frameCommand_message {i : Instr} {p : Port} {k : Kind} {body : List Byte} (h : messageOf i = some ⟨p, k, body⟩)
    (hwf : i.wellFormed = true) : frameCommand p ⟨kindByte k, portTag p, body⟩ = i := by
  unfold frameCommand
  dsimp only
  rw [kindOfByte_kindByte]
  dsimp only
  rw [if_pos rfl, commandOf_message h hwf]
  rfl

theorem huntFrames_message {i : Instr} {p : Port} {k : Kind} {body : List Byte} (h : messageOf i = some ⟨p, k, body⟩)
    (hwf : i.wellFormed = true) (rest : List Byte) : huntFrames 0 (frameBytes (kindByte k) (portTag p) body ++ rest)
      = ⟨kindByte k, portTag p, body⟩ :: huntFrames 0 rest := by
  obtain ⟨hpos, hlen⟩ := message_length h hwf
  exact huntFrames_frameBytes (kindByte_lt k) (portTag_lt p) hpos hlen rest

theorem transactionCommand_of_good {rest : List Byte} {f : Frame} {fs : List Frame}
    (h : huntFrames 0 (0xA5#8 :: rest) = f :: fs) :
    transactionCommand (0xA5#8 :: rest) = some (frameCommand .supervisor f) := by
  obtain ⟨e, -⟩ | ⟨g, gs, e, hcommand⟩ := writeCommand_cases rest
  · rw [h] at e
    cases e
  · rw [h] at e
    cases e
    rw [transactionCommand, if_pos rfl, hcommand]

/-- Settles O10: frames by the hunt, transactions by their first byte. -/
theorem framesCarryCommands : Obligations.FramesCarryCommands := by
  unfold Obligations.FramesCarryCommands
  refine ⟨fun i l k body junk rest h hwf hjunk => ?_, fun i k body rest h hwf => ?_,
    fun rest f fs h => transactionCommand_of_good h, fun rest h => ⟨writeFault rest, ?_, ?_, ?_, ?_⟩, fun rest => rfl,
    fun b rest hwrite hread => ⟨.answerRead 0, ?_, fun s => ?_⟩, rfl⟩
  · unfold streamCommands
    rw [List.append_assoc, huntFrames_junk hjunk,
      show frameBytes (kindByte k) (l.val + 1) body = frameBytes (kindByte k) (portTag (.station l)) body from rfl,
      huntFrames_message h hwf, List.map_cons, frameCommand_message h hwf]
  · have hhunt := huntFrames_message h hwf rest
    exact (transactionCommand_of_good hhunt).trans (congrArg some (frameCommand_message h hwf))
  · obtain ⟨-, e⟩ | ⟨g, gs, e, -⟩ := writeCommand_cases rest
    · rw [transactionCommand, if_pos rfl, e]
    · rw [h] at e
      cases e
  · rintro len more rfl hlen
    exact if_pos hlen
  · rintro len more rfl hleast hmost
    exact if_neg (by omega)
  · rintro rfl
    rfl
  · rw [transactionCommand, if_neg hwrite, if_neg hread]
  · change execAnswerRead 0 s = _
    unfold execAnswerRead
    split
    · rfl
    · split
      · next a n hslot =>
        have hframe : ¬ (partFrame (portTag .supervisor) a n).length ≤ 0 := by simp [partFrame, frameBytes]
        dsimp only
        rw [if_neg hframe, List.take_zero, List.append_nil]
        rfl
      · rfl

end Sys2Proof.Machine

/-! SUPPORT. Fields of one and two bytes at their places, and the sections of the profile as they are set and read (R187,
R189, section 10.3). -/

namespace Sys2Proof.Machine

variable {s : State}

/-! ### Fields of one and two bytes -/

/-- The number in the byte at a place. -/
def byteAt (bs : List Byte) (i : Nat) : Nat := (bs.getD i 0#8).toNat

/-- The number in the two bytes at a place. -/
def wordAt (bs : List Byte) (i : Nat) : Nat := byteAt bs i + 256 * byteAt bs (i + 1)

theorem byteAt_drop (bs : List Byte) (k i : Nat) : byteAt (bs.drop k) i = byteAt bs (k + i) := by
  simp [byteAt, List.getD_eq_getElem?_getD]

theorem ofLe_take_one (bs : List Byte) : ofLe (bs.take 1) = byteAt bs 0 := by
  cases bs <;> rfl

theorem ofLe_take_two (bs : List Byte) : ofLe (bs.take 2) = wordAt bs 0 := by
  match bs with
  | [] => rfl
  | [a] => rfl
  | a :: b :: rest => rfl

theorem readFields_nil (bs : List Byte) : readFields [] bs = [] := rfl

theorem readFields_byte (ws : List Nat) (bs : List Byte) (k : Nat) :
    readFields (1 :: ws) (bs.drop k) = byteAt bs k :: readFields ws (bs.drop (k + 1)) := by
  rw [readFields, ofLe_take_one, byteAt_drop, List.drop_drop, Nat.add_zero]

theorem readFields_word (ws : List Nat) (bs : List Byte) (k : Nat) :
    readFields (2 :: ws) (bs.drop k) = wordAt bs k :: readFields ws (bs.drop (k + 2)) := by
  rw [readFields, ofLe_take_two, wordAt, byteAt_drop, byteAt_drop, List.drop_drop, Nat.add_zero]
  rfl

theorem sectionWidths_zero : sectionWidths 0 = [1, 1, 1, 1, 1] := rfl

theorem sectionWidths_one : sectionWidths 1
    = [1, 1, 1, 1, 1, 1, 1, 1, 1, 1, 1, 1, 1, 1, 1, 1, 2, 2, 2, 2, 2, 2, 2, 2, 2, 2] := rfl

theorem sectionWidths_two : sectionWidths 2 = [1, 1, 2, 1] := rfl

theorem sectionWidths_three : sectionWidths 3 = [2, 2, 1, 1, 1, 1, 1, 1] := rfl

/-- Section 10.3: the fields of a section at their places in the bytes that begin at `k`. -/
theorem readFields_section_zero (bs : List Byte) (k : Nat) : readFields (sectionWidths 0) (bs.drop k)
    = [byteAt bs k, byteAt bs (k + 1), byteAt bs (k + 2), byteAt bs (k + 3), byteAt bs (k + 4)] := by
  simp only [sectionWidths_zero, readFields_byte, readFields_nil]

theorem readFields_section_one (bs : List Byte) (k : Nat) : readFields (sectionWidths 1) (bs.drop k)
    = (List.range 16).map (fun i => byteAt bs (k + i))
      ++ (List.range 8).map (fun i => wordAt bs (k + 16 + 2 * i))
      ++ [wordAt bs (k + 32), wordAt bs (k + 34)] := by
  simp only [sectionWidths_one, readFields_byte, readFields_word, readFields_nil]
  rfl

theorem readFields_section_two (bs : List Byte) (k : Nat) : readFields (sectionWidths 2) (bs.drop k)
    = [byteAt bs k, byteAt bs (k + 1), wordAt bs (k + 2), byteAt bs (k + 4)] := by
  simp only [sectionWidths_two, readFields_byte, readFields_word, readFields_nil]

theorem readFields_section_three (bs : List Byte) (k : Nat) : readFields (sectionWidths 3) (bs.drop k)
    = [wordAt bs k, wordAt bs (k + 2), byteAt bs (k + 4), byteAt bs (k + 5), byteAt bs (k + 6), byteAt bs (k + 7),
      byteAt bs (k + 8), byteAt bs (k + 9)] := by
  simp only [sectionWidths_three, readFields_byte, readFields_word, readFields_nil]

/-! ### A section written back -/

theorem pack_readFields (ws : List Nat) (bs : List Byte) (h : bs.length = ws.sum) :
    pack (ws.zip (readFields ws bs)) = bs := by
  induction ws generalizing bs with
  | nil => simpa [readFields] using h
  | cons w ws ih =>
    rw [List.sum_cons] at h
    have hlen : (bs.take w).length = w := by rw [List.length_take]; omega
    have hle : le w (ofLe (bs.take w)) = bs.take w := by
      have := le_ofLe (bs.take w)
      rwa [hlen] at this
    rw [readFields, List.zip_cons_cons, pack_cons, hle, ih _ (by rw [List.length_drop]; omega), List.take_append_drop]

theorem sectionBytesLength_eq {n : Nat} (hn : n ≤ 3) : sectionBytesLength n = sectionLength n := by
  match n, hn with
  | 0, _ | 1, _ | 2, _ | 3, _ => rfl

/-- R187: an accepted section is read back as it was sent. -/
theorem sectionBytes_withSection (p : Profile) {n : Nat} {fields : List Byte} (hn : n ≤ 3)
    (hlen : fields.length = sectionLength n)
    (hgood : sectionAcceptable n (readFields (sectionWidths n) fields) = true) :
    sectionBytes (withSection p n (readFields (sectionWidths n) fields)) n = fields := by
  rw [sectionBytes, sectionValues_withSection p hn (readFields_length ..) hgood]
  exact pack_readFields _ _ (hlen.trans (sectionBytesLength_eq hn).symm)

/-! ### What is acceptable, value by value -/

theorem forall_mem_iff_getD {P : Nat → Prop} (l : List Nat) : (∀ v ∈ l, P v) ↔ ∀ i < l.length, P (l.getD i 0) := by
  rw [List.forall_mem_iff_forall_getElem]
  refine forall₂_congr fun i hi => ?_
  rw [List.getD_eq_getElem?_getD, List.getElem?_eq_getElem hi, Option.getD_some]

theorem rolesDistinct_iff (l : List Nat) :
    rolesDistinct l = true ↔ ∀ i < l.length, ∀ j < l.length, i ≠ j → l.getD i 0 = l.getD j 0 → l.getD i 0 = 0 := by
  have hpair : rolesDistinct l = true ↔ l.Pairwise fun a b => a = b → a = 0 := by
    induction l with
    | nil => simp [rolesDistinct]
    | cons r rs ih =>
      have hhead : (r = 0 ∨ r ∉ rs) ↔ ∀ b ∈ rs, r = b → r = 0 := by
        constructor
        · rintro (h | h) b hb rfl
          · exact h
          · exact absurd hb h
        · intro h
          by_cases hr : r ∈ rs
          · exact .inl (h r hr rfl)
          · exact .inr hr
      rw [List.pairwise_cons, ← ih, ← hhead]
      simp [rolesDistinct]
  have hget (i : Nat) (hi : i < l.length) : l.getD i 0 = l[i] := by
    rw [List.getD_eq_getElem?_getD, List.getElem?_eq_getElem hi, Option.getD_some]
  rw [hpair, List.pairwise_iff_getElem]
  constructor
  · intro h i hi j hj hne e
    rw [hget i hi] at e ⊢
    rw [hget j hj] at e
    obtain hlt | hlt := Nat.lt_or_gt_of_ne hne
    · exact h i j hi hj hlt e
    · rw [e]
      exact h j i hj hi hlt e.symm
  · intro h i j hi hj hlt e
    have := h i hi j hj (Nat.ne_of_lt hlt) (by rw [hget i hi, hget j hj, e])
    rwa [hget i hi] at this

end Sys2Proof.Machine

/-! SUPPORT. PROFILE_SET and PROFILE_READ, and what each block takes up (R96, R126, R143, R159, R166, R187, R189). -/

namespace Sys2Proof.Machine

variable {s : State}

/-! ### PROFILE_SET in the order of its checks -/

theorem profileMayChange_iff : s.profileMayChange = true ↔ s.governor.effective = .stop ∧ ∀ r ∈ s.bays, r.state ≠ .closed := by
  simp [State.profileMayChange]

section
variable {n : Nat} {fields : List Byte}

theorem setProfileRequest_of_length (hn : n ≤ 3) (hlen : fields.length = sectionLength n) :
    ¬ (3 < n ∨ fields.length ≠ sectionBytesLength n) := by
  rw [sectionBytesLength_eq hn]
  omega

theorem setProfileRequest_of_writing (hn : n ≤ 3) (hlen : fields.length = sectionLength n)
    (hw : s.profileStatus.writing = true) : setProfileRequest n fields s = (s, busyAnswer .profileSet) := by
  unfold setProfileRequest
  rw [if_neg (setProfileRequest_of_length hn hlen), if_pos hw]

theorem setProfileRequest_of_running (hn : n ≤ 3) (hlen : fields.length = sectionLength n)
    (hw : s.profileStatus.writing = false) (hmay : s.profileMayChange = false) :
    setProfileRequest n fields s = (s, refuse .profileSet .notStopped) := by
  unfold setProfileRequest
  rw [if_neg (setProfileRequest_of_length hn hlen), if_neg (by simp [hw]), if_pos (by simp [hmay])]

theorem setProfileRequest_of_stopped (hn : n ≤ 3) (hlen : fields.length = sectionLength n)
    (hw : s.profileStatus.writing = false) (hmay : s.profileMayChange = true) : setProfileRequest n fields s =
      if sectionAcceptable n (readFields (sectionWidths n) fields) = false then (s, refuse .profileSet .badValue)
      else (State.takeProfile n s.profile { s with
        profile := withSection s.profile n (readFields (sectionWidths n) fields) }, okAnswer .profileSet []) := by
  unfold setProfileRequest
  rw [if_neg (setProfileRequest_of_length hn hlen), if_neg (by simp [hw]), if_neg (by simp [hmay])]
  dsimp only
  cases sectionAcceptable n (readFields (sectionWidths n) fields) <;> rfl

end

/-! ### The supervisor port while a section is taken up -/

theorem State.roleChanged_eq (old new : Profile) (s : State) (l : Line) :
    State.roleChanged old new s l = { s with stations := (State.roleChanged old new s l).stations } := by
  unfold State.roleChanged
  split
  · split <;> rfl
  · rfl

theorem State.foldl_roleChanged_eq (old new : Profile) (ls : List Line) (s : State) :
    ls.foldl (State.roleChanged old new) s = { s with stations := (ls.foldl (State.roleChanged old new) s).stations } := by
  induction ls generalizing s with
  | nil => rfl
  | cons l ls ih =>
    rw [List.foldl_cons, ih, State.roleChanged_eq old new s l]

theorem State.takeProfile_supervisor (n : Nat) (old : Profile) (s : State) : (s.takeProfile n old).supervisor = s.supervisor := by
  unfold State.takeProfile
  split
  · rw [State.foldl_roleChanged_eq]
  · simp
  · rfl
  · have hoption : (s.optionOn old).supervisor = s.supervisor := by
      unfold State.optionOn
      split <;> simp
    have hcycling (u : State) : (u.cyclingChanged old).supervisor = u.supervisor := by
      unfold State.cyclingChanged
      split <;> [rfl; split] <;> rfl
    rw [State.repaceReleasing_supervisor, hcycling, hoption]
  · rfl

/-! ### Acceptable values, one by one -/

theorem sectionAcceptable_zero_iff {vals : List Nat} (hlen : vals.length = 5) : sectionAcceptable 0 vals = true ↔
    (∀ i < 5, vals.getD i 0 ≤ 5) ∧ ∀ i < 5, ∀ j < 5, i ≠ j → vals.getD i 0 = vals.getD j 0 → vals.getD i 0 = 0 := by
  rw [sectionAcceptable_zero hlen, rolesDistinct_iff, forall_mem_iff_getD, hlen]

theorem sectionAcceptable_one_iff {vals : List Nat} (hlen : vals.length = 26) : sectionAcceptable 1 vals = true ↔
    (∀ i < 16, vals.getD i 0 ≤ 4) ∧ (∀ i, 16 ≤ i → i < 24 → 10 ≤ vals.getD i 0 ∧ vals.getD i 0 ≤ 1200)
      ∧ vals.getD 16 0 ≤ vals.getD 17 0 ∧ vals.getD 18 0 ≤ vals.getD 19 0 ∧ vals.getD 20 0 ≤ vals.getD 21 0
      ∧ vals.getD 22 0 ≤ vals.getD 23 0 ∧ (5 ≤ vals.getD 24 0 ∧ vals.getD 24 0 ≤ 300)
      ∧ (5 ≤ vals.getD 25 0 ∧ vals.getD 25 0 ≤ 300) := by
  obtain ⟨as, js, ts, rfl, has, hjs, hts⟩ := bankValues_split hlen
  have ha (i : Nat) (hi : i < 16) : (as ++ js ++ ts).getD i 0 = as.getD i 0 := by
    rw [List.append_assoc, List.getD_append _ _ _ _ (by omega)]
  have hj (i : Nat) (hi : i < 8) : (as ++ js ++ ts).getD (16 + i) 0 = js.getD i 0 := by
    rw [List.append_assoc, List.getD_append_right _ _ _ _ (by omega), has, List.getD_append _ _ _ _ (by omega)]
    congr 1
    omega
  have ht (i : Nat) : (as ++ js ++ ts).getD (24 + i) 0 = ts.getD i 0 := by
    rw [List.getD_append_right _ _ _ _ (by simp [has, hjs])]
    congr 1
    simp [has, hjs]
  have horder : jawsOrdered js = true ↔ js.getD 0 0 ≤ js.getD 1 0 ∧ js.getD 2 0 ≤ js.getD 3 0
      ∧ js.getD 4 0 ≤ js.getD 5 0 ∧ js.getD 6 0 ≤ js.getD 7 0 := by
    match js, hjs with
    | [a, b, c, d, e, f, g, h], _ => simp [jawsOrdered]
  have hall : (∀ i < 8, 10 ≤ js.getD i 0 ∧ js.getD i 0 ≤ 1200) ↔ ∀ i, 16 ≤ i → i < 24 →
      10 ≤ (as ++ js ++ ts).getD i 0 ∧ (as ++ js ++ ts).getD i 0 ≤ 1200 := by
    constructor
    · intro h i hge hlt
      obtain ⟨k, rfl⟩ := Nat.exists_eq_add_of_le hge
      rw [hj k (by omega)]
      exact h k (by omega)
    · intro h i hi
      rw [← hj i hi]
      exact h (16 + i) (by omega) (by omega)
  have hassign : (∀ i < 16, as.getD i 0 ≤ 4) ↔ ∀ i < 16, (as ++ js ++ ts).getD i 0 ≤ 4 :=
    forall₂_congr fun i hi => by rw [ha i hi]
  rw [sectionAcceptable_one has hjs hts, horder, forall_mem_iff_getD as, has, forall_mem_iff_getD js, hjs, hall, hassign,
    forall_mem_iff_getD ts, hts]
  have hts2 : (∀ i < 2, 5 ≤ ts.getD i 0 ∧ ts.getD i 0 ≤ 300)
      ↔ (5 ≤ ts.getD 0 0 ∧ ts.getD 0 0 ≤ 300) ∧ 5 ≤ ts.getD 1 0 ∧ ts.getD 1 0 ≤ 300 := by
    constructor
    · exact fun h => ⟨h 0 (by decide), h 1 (by decide)⟩
    · rintro ⟨h0, h1⟩ i hi
      interval_cases i
      · exact h0
      · exact h1
  rw [hts2, ← ht 0, ← ht 1, ← hj 0, ← hj 1, ← hj 2, ← hj 3, ← hj 4, ← hj 5, ← hj 6, ← hj 7]
  · tauto
  all_goals decide

/-- Settles O8: the checks in order, the section read back, and its fields byte by byte and value by value. -/
theorem profileSetAndReadSections : Obligations.ProfileSetAndReadSections := by
  unfold Obligations.ProfileSetAndReadSections
  refine ⟨fun s n fields h hn hlen => ⟨fun hw => ?_, fun hw hrun => ?_, fun hw hstop hbays =>
      ⟨fun hbad => ?_, fun hgood => ⟨withSection s.profile n (readFields (sectionWidths n) fields),
        sectionBytes_withSection s.profile hn hlen hgood, fun m hm hne => ?_, ?_⟩⟩⟩,
    fun s n h hn => ?_, fun s n h hn => ?_, fun fields => ⟨fun _ => ?_, fun _ => ?_, fun _ => ?_, fun _ => ?_⟩,
    fun vals => ⟨sectionAcceptable_zero_iff, sectionAcceptable_one_iff, fun hlen => ?_, fun hlen => ?_⟩⟩
  · exact congrArg Host.Outcome.next (State.request_of_taken s h
      (setProfileRequest_of_writing (s := s.taken) hn hlen hw))
  · have hmay : s.taken.profileMayChange = false := by
      refine Bool.eq_false_iff.2 fun hmay => ?_
      obtain ⟨hstop, hbays⟩ := profileMayChange_iff.1 hmay
      obtain hne | ⟨r, hr, hclosed⟩ := hrun
      · exact hne hstop
      · exact hbays r hr hclosed
    exact congrArg Host.Outcome.next (State.request_of_taken s h
      (setProfileRequest_of_running (s := s.taken) hn hlen hw hmay))
  · have hmay : s.taken.profileMayChange = true := profileMayChange_iff.2 ⟨hstop, hbays⟩
    exact congrArg Host.Outcome.next (State.request_of_taken s h
      ((setProfileRequest_of_stopped (s := s.taken) hn hlen hw hmay).trans (if_pos hbad)))
  · rw [sectionBytes, sectionValues_withSection_ne _ _ hne]
    rfl
  · have hmay : s.taken.profileMayChange = true := profileMayChange_iff.2 ⟨hstop, hbays⟩
    refine congrArg Host.Outcome.next (State.request_of_awaiting h
      ((setProfileRequest_of_stopped (s := s.taken) hn hlen hw hmay).trans (if_neg (by simp [hgood]))) ?_)
    rw [State.takeProfile_supervisor]
    rfl
  · refine congrArg Host.Outcome.next (State.request_of_taken s h ?_)
    have hsave : saveStateCode s.profileStatus.save = if s.profileStatus.writing then 1 else 0 := by
      unfold ProfileStatus.writing
      cases s.profileStatus.save <;> rfl
    unfold readProfileRequest
    rw [if_neg (by omega)]
    refine congrArg (fun bytes => (s.taken, okAnswer .profileRead bytes)) (?_ : s.profileFields n = _)
    rw [State.profileFields, hsave]
    simp only [pack_cons, pack_nil, List.append_assoc, List.append_nil]
  · exact congrArg Host.Outcome.next (State.request_of_taken s h (if_pos hn))
  · exact readFields_section_zero fields 0
  · exact readFields_section_one fields 0
  · exact readFields_section_two fields 0
  · exact readFields_section_three fields 0
  · match vals, hlen with
    | [a, b, c, d], _ => exact sectionAcceptable_two a b c d
  · match vals, hlen with
    | [a, b, c, d, e, f, g, h], _ => exact sectionAcceptable_three a b c d e f g h

end Sys2Proof.Machine

/-! SUPPORT. What the blocks take up from a section (R96, R126, R143, R154, R159, R166). -/

namespace Sys2Proof.Machine

variable {s t : State}

/-! ### Roles -/

theorem State.updStation_station {l : Line} (h : l.val < s.stations.length) (f : StationLine → StationLine) (m : Line) :
    (s.updStation l f).station m = if m = l then f (s.station l) else s.station m := by
  have hget (x : List StationLine) : x.getD m.val StationLine.reset = (x[m.val]?).getD StationLine.reset :=
    List.getD_eq_getElem?_getD
  simp only [State.station, State.updStation, hget, List.getElem?_modify]
  by_cases hm : m = l
  · subst hm
    simp [List.getElem?_eq_getElem h]
  · have hne : l.val ≠ m.val := fun e => hm (Fin.ext e.symm)
    simp [hm, hne]

/-- R166: the record of a line whose role changed. -/
def withRole (old new : Profile) (l : Line) (r : StationLine) : StationLine :=
  if old.roles.getD l.val .none = new.roles.getD l.val .none then r
  else match r.slot with
    | .held h => { r with slot := .answered, output := r.output ++ [⟨bareWaitAnswer h.query, true⟩] }
    | .behind h _ => { r with slot := .answered, output := r.output ++ [⟨bareWaitAnswer h.query, true⟩] }
    | _ => r

theorem State.answerSlot_eq (l : Line) (a : Answer) : s.answerSlot l a
    = s.updStation l fun r => { r with slot := .answered, output := r.output ++ [⟨a, true⟩] } := by
  simp only [State.answerSlot, State.pushAnswer, State.setSlot, State.updStation, List.modify_modify_eq]
  rfl

theorem State.roleChanged_station (old new : Profile) {l : Line} (h : l.val < s.stations.length) (m : Line) :
    (State.roleChanged old new s l).station m = if m = l then withRole old new l (s.station l) else s.station m := by
  unfold State.roleChanged roleChanges withRole
  by_cases hrole : old.roles.getD l.val .none = new.roles.getD l.val .none
  · rw [if_neg (by simp only [bne_iff_ne]; exact not_not.2 hrole), if_pos hrole]
    split
    · next hm => rw [hm]
    · rfl
  · rw [if_pos (by simp only [bne_iff_ne]; exact hrole), if_neg hrole]
    cases hslot : (s.station l).slot with
    | held q =>
      dsimp only
      rw [State.answerSlot_eq, State.updStation_station h]
    | behind q n =>
      dsimp only
      rw [State.answerSlot_eq, State.updStation_station h]
    | _ =>
      dsimp only
      split
      · next hm => rw [hm]
      · rfl

theorem State.roleChanged_length (old new : Profile) (l : Line) :
    (State.roleChanged old new s l).stations.length = s.stations.length := by
  unfold State.roleChanged
  split
  · split <;> simp
  · rfl

theorem State.foldl_roleChanged_station (old new : Profile) (ls : List Line) (hnodup : ls.Nodup)
    (h : ∀ l : Line, l.val < s.stations.length) (m : Line) : (ls.foldl (State.roleChanged old new) s).station m =
      if m ∈ ls then withRole old new m (s.station m) else s.station m := by
  induction ls generalizing s with
  | nil => rfl
  | cons l ls ih =>
    obtain ⟨hl, hls⟩ := List.nodup_cons.1 hnodup
    rw [List.foldl_cons, ih hls (fun m => by rw [State.roleChanged_length]; exact h m), State.roleChanged_station _ _ (h l)]
    by_cases hm : m = l
    · subst hm
      simp [hl]
    · simp [hm]

/-! ### Pace fields -/

/-- R170: a query held is told from the slots alone. -/
theorem State.heldQuery_congr (h : t.stations = s.stations) (kind : Query → Bool) : t.heldQuery kind = s.heldQuery kind := by
  simp only [State.heldQuery, State.station, h]

/-- R156: with no query held a rise of the pace releases nothing. -/
theorem State.repaceReleasing_of_noneHeld (hcase : s.NoneHeld Query.isCaseCall) (hmove : s.NoneHeld Query.isNextMove)
    (hfold : s.NoneHeld Query.isFoldCall) : s.repaceReleasing = s.repace := by
  have hsame (kind : Query → Bool) : s.repace.heldQuery kind = s.heldQuery kind := State.heldQuery_congr (by simp) kind
  have hc := State.reevaluate_none s.repace Query.isCaseCall ((hsame _).trans hcase)
  have hm := State.reevaluate_none s.repace Query.isNextMove ((hsame _).trans hmove)
  have hf := State.reevaluate_none s.repace Query.isFoldCall ((hsame _).trans hfold)
  rw [State.repaceReleasing_eq]
  obtain e | e | e | e := s.repace.release_cases s.governor.effective s.lowestPace <;> simp [e, hc, hm, hf]

/-- R159: the glue latch option turned on latches a line that is not ready. -/
def optionLatches (old : Profile) (s : State) : Bool :=
  !old.glueLatch && s.profile.glueLatch && !s.governor.lines.glueReady

theorem State.optionOn_eq (old : Profile) (s : State) : s.optionOn old =
    { s with
      governor := { s.governor with glueLatch := s.governor.glueLatch || optionLatches old s }
      notices := (if optionLatches old s && !s.governor.glueLatch && !s.governor.guardLatch
        then State.raise .latched s else s).notices } := by
  unfold State.optionOn
  change (if (optionLatches old s && !s.governor.glueLatch) = true then _ else _) = _
  cases hlatch : optionLatches old s
  · simp
  · cases hglue : s.governor.glueLatch
    · simp only [Bool.not_false, Bool.and_self, if_true, Bool.or_true, Bool.true_and, State.setGlueLatch, State.anyLatch, hglue,
        Bool.or_false]
      cases s.governor.guardLatch <;> rfl
    · simp only [Bool.not_true, Bool.and_false, Bool.false_eq_true, if_false, Bool.true_or, Bool.false_and]
      rw [← hglue]

theorem State.cyclingChanged_eq (old : Profile) (s : State) : s.cyclingChanged old =
    { s with governor := { s.governor with
        recovery :=
          if !old.cycling && s.profile.cycling && s.governor.lines.platenLow
            then .slow (s.clock + s.profile.slowPeriod * 1000)
          else if old.cycling && !s.profile.cycling then .idle else s.governor.recovery } } := by
  unfold State.cyclingChanged
  split
  · rfl
  · split <;> rfl

/-- R154, R159: the pace fields taken up, before the pace is computed anew. -/
def State.takenPace (old : Profile) (s : State) : State :=
  { s with
    governor := { s.governor with
      glueLatch := s.governor.glueLatch || optionLatches old s
      recovery :=
        if !old.cycling && s.profile.cycling && s.governor.lines.platenLow
          then .slow (s.clock + s.profile.slowPeriod * 1000)
        else if old.cycling && !s.profile.cycling then .idle else s.governor.recovery }
    notices := (if optionLatches old s && !s.governor.glueLatch && !s.governor.guardLatch
      then State.raise .latched s else s).notices }

theorem State.cyclingChanged_optionOn (old : Profile) (s : State) :
    (s.optionOn old).cyclingChanged old = s.takenPace old := by
  rw [State.cyclingChanged_eq, State.optionOn_eq]
  rfl

/-- Settles O9, section by section. -/
theorem blocksTakeUpNewProfile : Obligations.BlocksTakeUpNewProfile := by
  unfold Obligations.BlocksTakeUpNewProfile
  intro s old
  refine ⟨rfl, rfl, fun l hlen => ⟨?_, State.foldl_roleChanged_eq ..⟩, fun hcase hmove hfold => ?_⟩
  · have hstation := State.foldl_roleChanged_station (s := s) old s.profile allLines (by decide)
      (fun m => by rw [hlen]; exact m.isLt) l
    have hmem : ∀ m : Line, m ∈ allLines := by decide
    rw [if_pos (hmem l)] at hstation
    refine hstation.trans ?_
    have hwait (q : Query) : bareWaitAnswer q = match q with
        | .caseCall => (⟨0x21, .wait, none, [0xFF#8]⟩ : Answer)
        | .nextMove => ⟨0x22, .wait, none, []⟩
        | .gauge _ _ => ⟨0x23, .wait, none, []⟩
        | .foldCall => ⟨0x24, .wait, none, [0xFF#8]⟩ := by
      cases q <;> rfl
    simp only [withRole, hwait] <;> rfl
  · have e : State.takeProfile 3 old s = ((s.optionOn old).cyclingChanged old).repace := by
      refine State.repaceReleasing_of_noneHeld ?_ ?_ ?_ <;>
        refine (State.heldQuery_congr ?_ _).trans ‹_› <;> rw [State.cyclingChanged_optionOn] <;> rfl
    rw [e, State.cyclingChanged_optionOn]
    refine ⟨?_, ?_, ?_⟩
    · rw [State.lowestPace_repace]
      exact State.repace_governor _
    · rw [State.lowestPace_repace]
      obtain ⟨hpace, e'⟩ | ⟨hpace, e'⟩ := (s.takenPace old).repace_cases
      · rw [e', if_pos (show _ = s.governor.effective from hpace)]
        rfl
      · rw [e', if_neg (show _ ≠ s.governor.effective from hpace)]
        rfl
    · obtain ⟨n, -, e'⟩ := (s.takenPace old).repace_eq_raised
      rw [e']
      rfl

end Sys2Proof.Machine

/-! SUPPORT. A legal profile written to the store and loaded from it (R186, R188). -/

namespace Sys2Proof.Machine

variable {s t : State} {p : Profile}

/-! ### Fields in their ranges fit their bytes -/

theorem fits_of_inRange {n : Nat} {sp : FieldSpec} (hn : n ≤ 3) (hsp : sp ∈ sectionSpecs n) {v : Nat}
    (h : sp.inRange v = true) : v < 256 ^ sp.width := by
  match n, hn with
  | 0, _ => fin_cases hsp <;> simp [interval] at h ⊢ <;> omega
  | 1, _ => fin_cases hsp <;> simp [interval] at h ⊢ <;> omega
  | 2, _ => fin_cases hsp <;> simp [interval] at h ⊢ <;> omega
  | 3, _ => fin_cases hsp <;> simp [interval, oneOf] at h ⊢ <;> omega

theorem sectionAcceptable_inRanges {n : Nat} {vals : List Nat} (h : sectionAcceptable n vals = true) :
    inRanges (sectionSpecs n) vals = true := (Bool.and_eq_true_iff.1 h).1

theorem Profile.Legal.length_sectionValues (h : p.Legal) {n : Nat} (hn : n ≤ 3) :
    (sectionValues p n).length = (sectionSpecs n).length := by
  match n, hn with
  | 0, _ => simp [sectionValues, h.roles, sectionSpecs, roleSpecs]
  | 1, _ =>
    have hjaws : (p.jaws.flatMap fun r => [r.least, r.greatest]).length = 8 := by
      have := length_jawValues p.jaws
      rw [h.jaws] at this
      exact this
    rw [sectionValues, List.length_append, List.length_append, hjaws, List.length_map, h.assignment]
    rfl
  | 2, _ | 3, _ => rfl

/-- Section 10.3: the fields of a legal section are read back from its bytes. -/
theorem readFields_sectionBytes (h : p.Legal) {n : Nat} (hn : n ≤ 3) (rest : List Byte) :
    readFields (sectionWidths n) (sectionBytes p n ++ rest) = sectionValues p n := by
  have hlen : (sectionWidths n).length = (sectionValues p n).length := by
    rw [h.length_sectionValues hn, sectionWidths, List.length_map]
  have hfits : ∀ f ∈ (sectionWidths n).zip (sectionValues p n), f.2 < 256 ^ f.1 := by
    have hranges := sectionAcceptable_inRanges (h.fields n hn)
    rw [inRanges, List.all_eq_true] at hranges
    intro f hf
    rw [sectionWidths, List.zip_map_left, List.mem_map] at hf
    obtain ⟨⟨sp, v⟩, hmem, rfl⟩ := hf
    exact fits_of_inRange hn (List.of_mem_zip hmem).1 (hranges _ hmem)
  have hread := readFields_pack _ rest hfits
  rwa [List.map_fst_zip hlen.le, List.map_snd_zip hlen.ge] at hread

theorem length_sectionBytes (h : p.Legal) {n : Nat} (hn : n ≤ 3) : (sectionBytes p n).length = sectionBytesLength n := by
  have hlen : (sectionWidths n).length ≤ (sectionValues p n).length := by
    rw [h.length_sectionValues hn, sectionWidths, List.length_map]
  rw [sectionBytes, pack_length, List.map_fst_zip hlen]
  rfl

/-- R186: where the bytes of a section stand in the stored copy. -/
theorem drop_profileBytes (h : p.Legal) {n : Nat} (hn : n ≤ 3) :
    ∃ rest, (profileBytes p).drop (sectionStart n) = sectionBytes p n ++ rest := by
  have h0 : (sectionBytes p 0).length = 5 := length_sectionBytes h (n := 0) (by decide)
  have h1 : (sectionBytes p 1).length = 36 := length_sectionBytes h (n := 1) (by decide)
  have h2 : (sectionBytes p 2).length = 5 := length_sectionBytes h (n := 2) (by decide)
  unfold profileBytes
  match n, hn with
  | 0, _ => exact ⟨_, by simp only [sectionStart, List.drop_zero, List.append_assoc]; rfl⟩
  | 1, _ =>
    refine ⟨sectionBytes p 2 ++ sectionBytes p 3, ?_⟩
    rw [List.append_assoc, List.append_assoc, show sectionStart 1 = 5 from rfl, List.drop_left' h0]
  | 2, _ =>
    refine ⟨sectionBytes p 3, ?_⟩
    rw [List.append_assoc, show sectionStart 2 = 41 from rfl, List.drop_left' (by rw [List.length_append, h0, h1])]
  | 3, _ =>
    refine ⟨[], ?_⟩
    rw [show sectionStart 3 = 46 from rfl, List.append_nil,
      List.drop_left' (by rw [List.length_append, List.length_append, h0, h1, h2])]

/-! ### The load of acceptable fields -/

theorem loadFields_of_inRanges : ∀ {specs : List FieldSpec} {vals : List Nat}, vals.length = specs.length →
    inRanges specs vals = true → loadFields specs vals = vals.map fun v => (v, false)
  | [], [], _, _ => rfl
  | sp :: specs, v :: vals, hlen, h => by
    rw [inRanges_cons, Bool.and_eq_true] at h
    obtain ⟨hv, hvals⟩ := h
    have ih := loadFields_of_inRanges (specs := specs) (vals := vals) (by simpa using hlen) hvals
    simpa [loadFields, loadField, hv] using ih

theorem loadJaws_of_inRanges : ∀ {specs : List FieldSpec} {vals : List Nat}, vals.length = specs.length →
    specs.length % 2 = 0 → inRanges specs vals = true → jawsOrdered vals = true →
    loadJaws specs vals = vals.map fun v => (v, false)
  | [], [], _, _, _, _ => rfl
  | [_], _, _, h, _, _ => by simp at h
  | sa :: sb :: specs, a :: b :: vals, hlen, heven, h, horder => by
    simp only [inRanges_cons, Bool.and_eq_true] at h
    obtain ⟨ha, hb, hvals⟩ := h
    simp only [jawsOrdered, Bool.and_eq_true, decide_eq_true_eq] at horder
    obtain ⟨hab, horder⟩ := horder
    have ih := loadJaws_of_inRanges (specs := specs) (vals := vals) (by simpa using hlen)
      (by simp only [List.length_cons] at heven; omega) hvals horder
    have hload : ∀ {sp : FieldSpec} {v : Nat}, sp.inRange v = true → loadField sp v = (v, false) := fun h => if_pos h
    rw [loadJaws, hload ha, hload hb, if_neg (by simp; omega), ih]
    rfl

/-- R186: an acceptable section is loaded as it is stored. -/
theorem loadSection_of_acceptable {n : Nat} {vals : List Nat} (hn : n ≤ 3) (hlen : vals.length = (sectionSpecs n).length)
    (h : sectionAcceptable n vals = true) : loadSection n vals = vals.map fun v => (v, false) := by
  have hranges := sectionAcceptable_inRanges h
  match n, hn with
  | 0, _ =>
    have hload : loadFields roleSpecs vals = vals.map fun v => (v, false) := loadFields_of_inRanges hlen hranges
    have hdistinct : rolesDistinct vals = true := ((sectionAcceptable_zero hlen).1 h).2
    have hfst : (vals.map fun v => (v, false)).map Prod.fst = vals := by simp [Function.comp_def]
    simp only [loadSection, loadRoles, hload, hfst, hdistinct, if_true]
  | 1, _ =>
    obtain ⟨as, js, ts, rfl, has, hjs, hts⟩ := bankValues_split hlen
    obtain ⟨-, -, -, horder⟩ := (sectionAcceptable_one has hjs hts).1 h
    rw [show sectionSpecs 1 = assignmentSpecs ++ jawSpecs ++ pressTimeSpecs from rfl,
      inRanges_append _ _ (by rw [List.length_append, List.length_append, has, hjs]; rfl),
      inRanges_append _ _ (by rw [has]; rfl), Bool.and_eq_true, Bool.and_eq_true] at hranges
    obtain ⟨⟨ha, hj⟩, ht⟩ := hranges
    have htake : (as ++ js ++ ts).take 16 = as := by rw [List.append_assoc, List.take_left' has]
    have hjaws : ((as ++ js ++ ts).drop 16).take 8 = js := by
      rw [List.append_assoc, List.drop_left' has, List.take_left' hjs]
    have hdrop : (as ++ js ++ ts).drop 24 = ts := List.drop_left' (by simp [has, hjs])
    simp only [loadSection, htake, hjaws, hdrop]
    rw [loadFields_of_inRanges has ha, loadJaws_of_inRanges hjs rfl hj horder, loadFields_of_inRanges hts ht]
    simp
  | 2, _ => exact loadFields_of_inRanges hlen hranges
  | 3, _ => exact loadFields_of_inRanges hlen hranges

theorem loadFromCopy_profileBytes (h : p.Legal) {n : Nat} (hn : n ≤ 3) :
    loadFromCopy (profileBytes p) n = (sectionValues p n).map fun v => (v, false) := by
  obtain ⟨rest, e⟩ := drop_profileBytes h hn
  rw [loadFromCopy, e, readFields_sectionBytes h hn, loadSection_of_acceptable hn (h.length_sectionValues hn) (h.fields n hn)]

/-- R186: no default is taken from the bytes of a legal profile. -/
theorem defaultedFields_profileBytes (h : p.Legal) : defaultedFields (profileBytes p) = 0 := by
  have hnone (n : Nat) (hn : n ≤ 3) : (loadFromCopy (profileBytes p) n).filter Prod.snd = [] := by
    rw [loadFromCopy_profileBytes h hn]
    simp [List.filter_eq_nil_iff]
  unfold defaultedFields
  rw [List.length_eq_zero_iff]
  simp only [List.flatMap_cons, List.flatMap_nil, List.filter_append, hnone 0 (by decide), hnone 1 (by decide),
    hnone 2 (by decide), hnone 3 (by decide), List.append_nil]

theorem withSection_sectionValues_zero (q p : Profile) : withSection q 0 (sectionValues p 0) = { q with roles := p.roles } := by
  have : (p.roles.map roleCode).map roleOfByte = p.roles := by
    rw [List.map_map]
    exact map_eq_self fun r _ => roleOfByte_roleCode r
  simp only [withSection, sectionValues, this]

theorem withSection_sectionValues_one (q : Profile) (h : p.Legal) : withSection q 1 (sectionValues p 1) = { q with
    assignment := p.assignment, jaws := p.jaws, unloadAge := p.unloadAge, overdwell := p.overdwell } := by
  have has : (p.assignment.map groupCode).length = 16 := by rw [List.length_map, h.assignment]
  have hjs : (jawValues p.jaws).length = 8 := by rw [length_jawValues, h.jaws]
  have e : sectionValues p 1 = p.assignment.map groupCode ++ (jawValues p.jaws ++ [p.unloadAge, p.overdwell]) :=
    List.append_assoc ..
  have hassign : (p.assignment.map groupCode).map groupOfByte = p.assignment := by
    rw [List.map_map]
    exact map_eq_self fun g _ => groupOfByte_groupCode g
  have hage (i : Nat) : (sectionValues p 1).getD (24 + i) 30 = [p.unloadAge, p.overdwell].getD i 30 := by
    rw [e, List.getD_append_right _ _ _ _ (by omega), has, List.getD_append_right _ _ _ _ (by omega), hjs]
    congr 1
    omega
  have hage0 := hage 0
  have hage1 := hage 1
  unfold withSection
  simp only [Nat.add_zero, Nat.reduceAdd] at hage0 hage1
  rw [hage0, hage1, e, List.take_left' has, List.drop_left' has, List.take_left' hjs, hassign, jawsOfValues_jawValues]
  rfl

theorem withSection_sectionValues_two (q p : Profile) : withSection q 2 (sectionValues p 2) = { q with
    caseSkip := p.caseSkip, jacketSkip := p.jacketSkip, holdLimit := p.holdLimit, waitLimit := p.waitLimit } := rfl

theorem withSection_sectionValues_three (q p : Profile) : withSection q 3 (sectionValues p 3) = { q with
    idle1 := p.idle1, idle2 := p.idle2, cycling := p.cycling, fastPeriod := p.fastPeriod, slowPeriod := p.slowPeriod
    glueLatch := p.glueLatch, lowWater := p.lowWater, highWater := p.highWater } := by
  have hbit : ∀ b : Bool, (b.toNat == 1) = b := by decide
  simp [withSection, sectionValues, hbit]

/-- R186: a legal profile comes back whole from its bytes. -/
theorem profileFromCopy_profileBytes (h : p.Legal) : profileFromCopy (profileBytes p) = p := by
  have hfst (n : Nat) (hn : n ≤ 3) : (loadFromCopy (profileBytes p) n).map Prod.fst = sectionValues p n := by
    rw [loadFromCopy_profileBytes h hn]
    simp [Function.comp_def]
  unfold profileFromCopy
  simp only [List.foldl_cons, List.foldl_nil]
  rw [hfst 0 (by decide), hfst 1 (by decide), hfst 2 (by decide), hfst 3 (by decide), withSection_sectionValues_zero,
    withSection_sectionValues_one _ h, withSection_sectionValues_two, withSection_sectionValues_three]

/-! ### The save and its ends -/

theorem exec_profileLoad_profile (h : s.phase = .loading) (a : Bool) : ∃ t, exec (.profileLoad a) s = .next t
    ∧ t.profile = (loadProfile s.store a).1
    ∧ t.profileStatus = ⟨(loadProfile s.store a).2.1, (loadProfile s.store a).2.2, .idle, .none⟩ := by
  obtain ⟨n, -, e⟩ := exec_profileLoad_of_loading h a
  obtain ⟨g, n', e', -⟩ := State.firstReading_eq (s := { s with
    phase := .running, profile := (loadProfile s.store a).1
    profileStatus := ⟨(loadProfile s.store a).2.1, (loadProfile s.store a).2.2, .idle, .none⟩, notices := n })
  exact ⟨_, e, by simp [e'], by simp [e']⟩

theorem exec_profileSaveDone_of_writing (h : s.profileStatus.writing = true) : exec .profileSaveDone s = .next { s with
    store := ⟨0x5A#8, profileBytes s.profile⟩
    profileStatus := { s.profileStatus with save := .idle, lastSave := .done } } := by
  obtain ⟨m, hm⟩ := (ProfileStatus.writing_iff _).1 h
  obtain ⟨e, -⟩ | ⟨-, -, e⟩ := execProfileSaveDone_cases s
  · rw [hm] at e
    cases e
  · exact e

theorem exec_profileSaveFailed_of_writing {m : Byte} (h : s.profileStatus.save = .writing m) (n : Nat) :
    exec (.profileSaveFailed n) s = .next (State.raise .profile { s with
      store := storeAfterFailure s.profile m s.store n
      profileStatus := { s.profileStatus with save := .idle, lastSave := .storeFailed } }) := by
  obtain ⟨e, -⟩ | ⟨m', e, e'⟩ := execProfileSaveFailed_cases s n
  · rw [h] at e
    cases e
  · rw [h] at e
    cases e
    exact e'

theorem storeAfterFailure_of_pos (p : Profile) (earlier : Byte) (store : Store) {n : Nat} (h : 1 ≤ n) :
    storeAfterFailure p earlier store n = ⟨0x00#8, (profileBytes p).take (n - 1) ++ store.copy.drop (n - 1)⟩ :=
  if_neg (by omega)

theorem exec_profileSave_of_idle (h : s.Awaiting) (hw : s.profileStatus.writing = false) : exec .profileSave s
    = .next (State.answered (okAnswer .profileSave []) s.beginSave) := by
  refine congrArg Host.Outcome.next (State.request_of_taken s.beginSave h ?_)
  exact if_neg (by simp [State.taken, hw])

/-- Settles O7: a save to its end, a failure at each stage, and a device reset. -/
theorem profileStoreKeepsProfile : Obligations.ProfileStoreKeepsProfile := by
  unfold Obligations.ProfileStoreKeepsProfile
  refine ⟨fun s hlegal hw => ?_, fun s h hw => ?_, fun s h hw => exec_profileSave_of_idle h hw,
    fun s hw => exec_profileSaveDone_of_writing hw, fun s earlier h => exec_profileSaveFailed_of_writing h 0,
    fun s h hw => ⟨_, _, exec_profileSave_of_idle h hw, exec_profileSaveFailed_of_writing rfl 0, rfl⟩,
    fun s n hw hn => ?_, fun s t hw hreset => ?_⟩
  · let s1 : State := { s with
      store := ⟨0x5A#8, profileBytes s.profile⟩
      profileStatus := { s.profileStatus with save := .idle, lastSave := .done } }
    obtain ⟨s2, hreset, hphase, hstore⟩ : ∃ s2, exec .deviceReset s1 = .next s2 ∧ s2.phase = .loading
        ∧ s2.store = s1.store := ⟨_, rfl, rfl, storeAfterReset_of_idle (s := s1) rfl⟩
    obtain ⟨s3, hload, hprofile, hstatus⟩ := exec_profileLoad_profile hphase true
    rw [hstore, loadProfile_of_valid rfl] at hprofile hstatus
    refine ⟨s1, s2, s3, exec_profileSaveDone_of_writing hw, hreset, hload,
      hprofile.trans (profileFromCopy_profileBytes hlegal), hstatus.trans ?_⟩
    rw [defaultedFields_profileBytes hlegal]
  · refine congrArg Host.Outcome.next (State.request_of_taken s h ?_)
    exact if_pos hw
  · obtain ⟨m, hm⟩ := (ProfileStatus.writing_iff _).1 hw
    have hstore := storeAfterFailure_of_pos s.profile m s.store hn
    refine ⟨(profileBytes s.profile).take (n - 1) ++ s.store.copy.drop (n - 1), ?_⟩
    rw [exec_profileSaveFailed_of_writing hm n, hstore]
  · have hphase : t.phase = .loading := by cases hreset; rfl
    have hmark : t.store.marker ≠ 0x5A#8 := by
      cases hreset
      exact fun e => absurd ((storeAfterReset_marker_of_writing hw).symm.trans e) (by decide)
    obtain ⟨u, hload, hprofile, hstatus⟩ := exec_profileLoad_profile hphase true
    rw [loadProfile_of_invalid hmark] at hprofile hstatus
    exact ⟨u, hload, hprofile, hstatus⟩

end Sys2Proof.Machine

/-! SUPPORT. A stored copy judged field by field, with the defaults it takes counted (R186, log entry 11). -/

namespace Sys2Proof.Machine

/-! ### One field -/

/-- R186: whether a value of a field of this range takes its default. -/
def outside (x a b : Nat) : Nat := if a ≤ x ∧ x ≤ b then 0 else 1

/-- The number of fields marked as defaulted. -/
def marks (l : List (Nat × Bool)) : Nat := (l.filter Prod.snd).length

/-- The mark of one field. -/
def mark (p : Nat × Bool) : Nat := if p.2 then 1 else 0

@[simp] theorem marks_nil : marks [] = 0 := rfl

@[simp] theorem marks_cons (p : Nat × Bool) (l : List (Nat × Bool)) : marks (p :: l) = mark p + marks l := by
  unfold marks mark
  rw [List.filter_cons]
  split <;> simp [Nat.add_comm]

@[simp] theorem marks_append (l m : List (Nat × Bool)) : marks (l ++ m) = marks l + marks m := by
  simp [marks]

theorem marks_map {α : Type} (f : α → Nat × Bool) (l : List α) : marks (l.map f) = (l.map fun a => mark (f a)).sum := by
  induction l with
  | nil => rfl
  | cons a l ih => simp [ih]

theorem loadField_interval (w a b d v : Nat) :
    (loadField (interval w a b d) v).1 = (if a ≤ v ∧ v ≤ b then v else d)
      ∧ mark (loadField (interval w a b d) v) = outside v a b := by
  unfold loadField interval outside mark
  by_cases h : a ≤ v ∧ v ≤ b
  · simp [h]
  · have hout : ¬ (decide (a ≤ v) && decide (v ≤ b)) = true := by simpa using h
    simp [hout, h]

theorem loadField_oneOf (w : Nat) (l : List Nat) (d v : Nat) :
    (loadField (oneOf w l d) v).1 = (if v ∈ l then v else d)
      ∧ mark (loadField (oneOf w l d) v) = if v ∈ l then 0 else 1 := by
  unfold loadField oneOf mark
  by_cases h : v ∈ l <;> simp [h]

/-! ### Roles and assignments -/

theorem loadFields_map {α : Type} (f : α → FieldSpec) (g : α → Nat) (l : List α) :
    loadFields (l.map f) (l.map g) = l.map fun a => loadField (f a) (g a) := by
  induction l with
  | nil => rfl
  | cons a l ih => exact congrArg (loadField (f a) (g a) :: ·) ih

/-- Section 10.3: role 1 to 5 by the number of the line. -/
theorem roleOfByte_eq_getD (n : Nat) :
    roleOfByte n = [Role.none, .infeed, .caser, .shuttle, .outfeed, .jacketer].getD n .none := by
  match n with
  | 0 | 1 | 2 | 3 | 4 | 5 => rfl
  | n + 6 => rfl

theorem groupOfByte_eq_getD (n : Nat) : groupOfByte n = [none, some .a, some .b, some .c, some .d].getD n none := by
  match n with
  | 0 | 1 | 2 | 3 | 4 => rfl
  | n + 5 => rfl

/-- R186: the role a stored byte gives line `i + 1`, before the roles are judged together. -/
def storedRole (x i : Nat) : Nat := if x ≤ 5 then x else i + 1

theorem loadFields_roleSpecs (f : Nat → Nat) : loadFields roleSpecs ((List.range 5).map f)
    = (List.range 5).map fun i => loadField (interval 1 0 5 (i + 1)) (f i) :=
  loadFields_map (fun i => interval 1 0 5 (i + 1)) f (List.range 5)

theorem map_fst_loadFields_roleSpecs (f : Nat → Nat) : (loadFields roleSpecs ((List.range 5).map f)).map Prod.fst
    = (List.range 5).map fun i => storedRole (f i) i := by
  rw [loadFields_roleSpecs, List.map_map]
  refine List.map_congr_left fun i _ => ?_
  simp [(loadField_interval ..).1, storedRole]

/-- R186: the roles stored put one role other than NONE on two lines. -/
def rolesClash (role : Nat → Nat) : Prop := ∃ i < 5, ∃ j < 5, i ≠ j ∧ role i = role j ∧ role i ≠ 0

theorem rolesDistinct_map_iff (role : Nat → Nat) :
    rolesDistinct ((List.range 5).map role) = true ↔ ¬ rolesClash role := by
  have hget (i : Nat) (hi : i < 5) : ((List.range 5).map role).getD i 0 = role i := by
    simp [List.getD_eq_getElem?_getD, hi]
  rw [rolesDistinct_iff, List.length_map, List.length_range]
  unfold rolesClash
  push Not
  refine forall₂_congr fun i hi => forall₂_congr fun j hj => ?_
  rw [hget i hi, hget j hj]

/-- R186: the roles of a copy. -/
theorem loadRoles_of_clash {f : Nat → Nat} (h : rolesClash fun i => storedRole (f i) i) :
    loadRoles ((List.range 5).map f) = [(1, true), (2, true), (3, true), (4, true), (5, true)] := by
  have hdistinct := mt (rolesDistinct_map_iff _).1 (not_not.2 h)
  unfold loadRoles
  dsimp only
  rw [map_fst_loadFields_roleSpecs, if_neg hdistinct]
  rfl

theorem loadRoles_of_distinct {f : Nat → Nat} (h : ¬ rolesClash fun i => storedRole (f i) i) :
    loadRoles ((List.range 5).map f) = loadFields roleSpecs ((List.range 5).map f) := by
  have hdistinct := (rolesDistinct_map_iff _).2 h
  unfold loadRoles
  dsimp only
  rw [map_fst_loadFields_roleSpecs, if_pos hdistinct]

theorem marks_loadRoles (f : Nat → Nat) {_ : Decidable (rolesClash fun i => storedRole (f i) i)} :
    marks (loadRoles ((List.range 5).map f)) = if rolesClash fun i => storedRole (f i) i then 5
      else ((List.range 5).map fun i => outside (f i) 0 5).sum := by
  split
  · next h =>
    rw [loadRoles_of_clash h]
    rfl
  · next h =>
    rw [loadRoles_of_distinct h, loadFields_roleSpecs, marks_map]
    simp only [(loadField_interval ..).2]

theorem assignmentSpecs_eq : assignmentSpecs = (List.range 16).map fun i => interval 1 0 4 (i / 4 + 1) := rfl

/-! ### Jaw groups -/

/-- R186: the two limits of a jaw group as the load takes them. -/
def loadPair (sa sb : FieldSpec) (a b : Nat) : (Nat × Bool) × (Nat × Bool) :=
  if b < a ∨ (loadField sb b).1 < (loadField sa a).1 then ((sa.dflt, true), (sb.dflt, true))
  else (loadField sa a, loadField sb b)

theorem loadJaws_cons (sa sb : FieldSpec) (specs : List FieldSpec) (a b : Nat) (vals : List Nat) :
    loadJaws (sa :: sb :: specs) (a :: b :: vals)
      = (loadPair sa sb a b).1 :: (loadPair sa sb a b).2 :: loadJaws specs vals := by
  rw [loadJaws]
  unfold loadPair
  by_cases h : b < a ∨ (loadField sb b).1 < (loadField sa a).1
  · rw [if_pos h, if_pos (by simpa using h)]
    rfl
  · rw [if_neg h, if_neg (by simpa using h)]
    rfl

/-- R186: the jaw groups, group by group. -/
theorem loadJaws_flatMap {α : Type} (sa sb : α → FieldSpec) (a b : α → Nat) (l : List α) :
    loadJaws (l.flatMap fun g => [sa g, sb g]) (l.flatMap fun g => [a g, b g])
      = l.flatMap fun g => [(loadPair (sa g) (sb g) (a g) (b g)).1, (loadPair (sa g) (sb g) (a g) (b g)).2] := by
  induction l with
  | nil => rfl
  | cons g l ih =>
    simp only [List.flatMap_cons, List.cons_append, List.nil_append, loadJaws_cons, ih]

theorem jawsOfValues_flatMap {α : Type} (a b : α → Nat) (l : List α) :
    jawsOfValues (l.flatMap fun g => [a g, b g]) = l.map fun g => ⟨a g, b g⟩ := by
  induction l with
  | nil => rfl
  | cons g l ih => simp only [List.flatMap_cons, List.cons_append, List.nil_append, jawsOfValues, ih, List.map_cons]

theorem marks_flatMap {α : Type} (f g : α → Nat × Bool) (l : List α) :
    marks (l.flatMap fun a => [f a, g a]) = (l.map fun a => mark (f a) + mark (g a)).sum := by
  induction l with
  | nil => rfl
  | cons a l ih => simp [ih, Nat.add_assoc]

/-- Section 10.3: the defaults of groups A to D. -/
def leastDefault (g : Nat) : Nat := [30, 140, 300, 600].getD g 0
def greatestDefault (g : Nat) : Nat := [160, 320, 620, 1130].getD g 0

theorem jawSpecs_eq : jawSpecs = (List.range 4).flatMap fun g =>
    [interval 2 10 1200 (leastDefault g), interval 2 10 1200 (greatestDefault g)] := rfl

/-! ### The four sections of a copy -/

section
variable (copy : List Byte)

/-- Section 10.3: the assignment fields of a copy. -/
def storedAssignment : List (Nat × Bool) :=
  (List.range 16).map fun i => loadField (interval 1 0 4 (i / 4 + 1)) (byteAt copy (5 + i))

/-- Section 10.3: the two limits of jaw group `g` of a copy. -/
def storedPair (g : Nat) : (Nat × Bool) × (Nat × Bool) :=
  loadPair (interval 2 10 1200 (leastDefault g)) (interval 2 10 1200 (greatestDefault g)) (wordAt copy (21 + 4 * g))
    (wordAt copy (23 + 4 * g))

/-- Section 10.3: the jaw fields of a copy. -/
def storedJaws : List (Nat × Bool) := (List.range 4).flatMap fun g => [(storedPair copy g).1, (storedPair copy g).2]

theorem loadFromCopy_zero : loadFromCopy copy 0 = loadRoles ((List.range 5).map (byteAt copy)) :=
  congrArg loadRoles (readFields_section_zero copy 0)

theorem storedJaws_eq : loadJaws jawSpecs ((List.range 8).map fun i => wordAt copy (5 + 16 + 2 * i))
    = storedJaws copy := by
  have hvals : ((List.range 8).map fun i => wordAt copy (5 + 16 + 2 * i))
      = (List.range 4).flatMap fun g => [wordAt copy (21 + 4 * g), wordAt copy (23 + 4 * g)] := rfl
  rw [jawSpecs_eq, hvals, loadJaws_flatMap]
  rfl

theorem loadFromCopy_one : loadFromCopy copy 1 = storedAssignment copy ++ storedJaws copy
    ++ [loadField (interval 2 5 300 30) (wordAt copy 37), loadField (interval 2 5 300 30) (wordAt copy 39)] := by
  have hassign : loadFields assignmentSpecs ((List.range 16).map fun i => byteAt copy (5 + i))
      = storedAssignment copy := by
    rw [assignmentSpecs_eq, loadFields_map]
    rfl
  have hload : loadFromCopy copy 1
      = loadFields assignmentSpecs ((List.range 16).map fun i => byteAt copy (5 + i))
        ++ loadJaws jawSpecs ((List.range 8).map fun i => wordAt copy (5 + 16 + 2 * i))
        ++ loadFields pressTimeSpecs [wordAt copy 37, wordAt copy 39] :=
    congrArg (loadSection 1) (readFields_section_one copy 5)
  rw [hload, hassign, storedJaws_eq]
  rfl

theorem loadFromCopy_two : loadFromCopy copy 2
    = [loadField (interval 1 0 7 3) (byteAt copy 41), loadField (interval 1 0 3 1) (byteAt copy 42),
      loadField (interval 2 50 1000 200) (wordAt copy 43), loadField (interval 1 1 255 16) (byteAt copy 45)] :=
  congrArg (loadSection 2) (readFields_section_two copy 41)

theorem loadFromCopy_three : loadFromCopy copy 3
    = [loadField (interval 2 5 600 20) (wordAt copy 46), loadField (interval 2 5 600 60) (wordAt copy 48),
      loadField (interval 1 0 1 0) (byteAt copy 50), loadField (oneOf 1 [4, 8, 16, 32] 8) (byteAt copy 51),
      loadField (oneOf 1 [1, 2, 4, 8] 2) (byteAt copy 52), loadField (interval 1 0 1 1) (byteAt copy 53),
      loadField (interval 1 0 8 2) (byteAt copy 54), loadField (interval 1 32 64 56) (byteAt copy 55)] :=
  congrArg (loadSection 3) (readFields_section_three copy 46)

/-! ### The profile of a copy -/

/-- A profile with the values of all four sections. -/
def withSections (v0 v1 v2 v3 : List Nat) : Profile :=
  withSection (withSection (withSection (withSection Profile.default 0 v0) 1 v1) 2 v2) 3 v3

theorem withSections_eq (v0 v1 v2 v3 : List Nat) : withSections v0 v1 v2 v3 =
    { roles := v0.map roleOfByte, assignment := (v1.take 16).map groupOfByte, jaws := jawsOfValues ((v1.drop 16).take 8)
      unloadAge := v1.getD 24 30, overdwell := v1.getD 25 30
      caseSkip := v2.getD 0 3, jacketSkip := v2.getD 1 1, holdLimit := v2.getD 2 200, waitLimit := v2.getD 3 16
      idle1 := v3.getD 0 20, idle2 := v3.getD 1 60, cycling := v3.getD 2 0 == 1, fastPeriod := v3.getD 3 8
      slowPeriod := v3.getD 4 2, glueLatch := v3.getD 5 1 == 1, lowWater := v3.getD 6 2, highWater := v3.getD 7 56 } :=
  rfl

theorem profileFromCopy_eq : profileFromCopy copy = withSections ((loadFromCopy copy 0).map Prod.fst)
    ((loadFromCopy copy 1).map Prod.fst) ((loadFromCopy copy 2).map Prod.fst) ((loadFromCopy copy 3).map Prod.fst) :=
  rfl

theorem length_storedAssignment : (storedAssignment copy).length = 16 := by simp [storedAssignment]

theorem length_storedJaws : (storedJaws copy).length = 8 := rfl

theorem profileFromCopy_roles : (profileFromCopy copy).roles
    = ((loadRoles ((List.range 5).map (byteAt copy))).map Prod.fst).map roleOfByte := by
  rw [profileFromCopy_eq, withSections_eq, loadFromCopy_zero]

theorem profileFromCopy_assignment : (profileFromCopy copy).assignment
    = ((storedAssignment copy).map Prod.fst).map groupOfByte := by
  rw [profileFromCopy_eq, withSections_eq, loadFromCopy_one]
  simp [length_storedAssignment]

theorem profileFromCopy_jaws : (profileFromCopy copy).jaws = jawsOfValues ((storedJaws copy).map Prod.fst) := by
  rw [profileFromCopy_eq, withSections_eq, loadFromCopy_one]
  simp [length_storedAssignment, length_storedJaws]

theorem profileFromCopy_times : (profileFromCopy copy).unloadAge = (loadField (interval 2 5 300 30) (wordAt copy 37)).1
    ∧ (profileFromCopy copy).overdwell = (loadField (interval 2 5 300 30) (wordAt copy 39)).1 := by
  rw [profileFromCopy_eq, withSections_eq, loadFromCopy_one]
  simp [length_storedAssignment, length_storedJaws]

theorem profileFromCopy_matching :
    (profileFromCopy copy).caseSkip = (loadField (interval 1 0 7 3) (byteAt copy 41)).1
      ∧ (profileFromCopy copy).jacketSkip = (loadField (interval 1 0 3 1) (byteAt copy 42)).1
      ∧ (profileFromCopy copy).holdLimit = (loadField (interval 2 50 1000 200) (wordAt copy 43)).1
      ∧ (profileFromCopy copy).waitLimit = (loadField (interval 1 1 255 16) (byteAt copy 45)).1 := by
  rw [profileFromCopy_eq, withSections_eq, loadFromCopy_two]
  exact ⟨rfl, rfl, rfl, rfl⟩

theorem profileFromCopy_idle :
    (profileFromCopy copy).idle1 = (loadField (interval 2 5 600 20) (wordAt copy 46)).1
      ∧ (profileFromCopy copy).idle2 = (loadField (interval 2 5 600 60) (wordAt copy 48)).1 := by
  rw [profileFromCopy_eq, withSections_eq, loadFromCopy_three]
  exact ⟨rfl, rfl⟩

theorem profileFromCopy_recovery :
    (profileFromCopy copy).cycling = ((loadField (interval 1 0 1 0) (byteAt copy 50)).1 == 1)
      ∧ (profileFromCopy copy).fastPeriod = (loadField (oneOf 1 [4, 8, 16, 32] 8) (byteAt copy 51)).1
      ∧ (profileFromCopy copy).slowPeriod = (loadField (oneOf 1 [1, 2, 4, 8] 2) (byteAt copy 52)).1 := by
  rw [profileFromCopy_eq, withSections_eq, loadFromCopy_three]
  exact ⟨rfl, rfl, rfl⟩

theorem profileFromCopy_levels :
    (profileFromCopy copy).glueLatch = ((loadField (interval 1 0 1 1) (byteAt copy 53)).1 == 1)
      ∧ (profileFromCopy copy).lowWater = (loadField (interval 1 0 8 2) (byteAt copy 54)).1
      ∧ (profileFromCopy copy).highWater = (loadField (interval 1 32 64 56) (byteAt copy 55)).1 := by
  rw [profileFromCopy_eq, withSections_eq, loadFromCopy_three]
  exact ⟨rfl, rfl, rfl⟩

/-! ### The fields judged -/

/-- R186: group `g` takes both its defaults: its limits cross as stored, or once a default stands in for one. -/
def crossed (g : Nat) : Prop := wordAt copy (23 + 4 * g) < wordAt copy (21 + 4 * g)
  ∨ (if 10 ≤ wordAt copy (23 + 4 * g) ∧ wordAt copy (23 + 4 * g) ≤ 1200 then wordAt copy (23 + 4 * g)
      else greatestDefault g)
    < (if 10 ≤ wordAt copy (21 + 4 * g) ∧ wordAt copy (21 + 4 * g) ≤ 1200 then wordAt copy (21 + 4 * g)
      else leastDefault g)

theorem storedPair_of_crossed {g : Nat} (h : crossed copy g) :
    storedPair copy g = ((leastDefault g, true), (greatestDefault g, true)) := by
  refine if_pos ?_
  rw [(loadField_interval ..).1, (loadField_interval ..).1]
  exact h

theorem storedPair_of_not_crossed {g : Nat} (h : ¬ crossed copy g) : storedPair copy g
    = (loadField (interval 2 10 1200 (leastDefault g)) (wordAt copy (21 + 4 * g)),
      loadField (interval 2 10 1200 (greatestDefault g)) (wordAt copy (23 + 4 * g))) := by
  refine if_neg ?_
  rw [(loadField_interval ..).1, (loadField_interval ..).1]
  exact h

theorem marks_storedAssignment :
    marks (storedAssignment copy) = ((List.range 16).map fun i => outside (byteAt copy (5 + i)) 0 4).sum := by
  rw [storedAssignment, marks_map]
  simp only [(loadField_interval ..).2]

theorem marks_storedJaws {_ : DecidablePred (crossed copy)} : marks (storedJaws copy) = ((List.range 4).map fun g =>
    if crossed copy g then 2
    else outside (wordAt copy (21 + 4 * g)) 10 1200 + outside (wordAt copy (23 + 4 * g)) 10 1200).sum := by
  rw [storedJaws, marks_flatMap]
  refine congrArg List.sum (List.map_congr_left fun g _ => ?_)
  split
  · next h => rw [storedPair_of_crossed copy h]; rfl
  · next h => rw [storedPair_of_not_crossed copy h, (loadField_interval ..).2, (loadField_interval ..).2]

theorem storedJaws_ranges {_ : DecidablePred (crossed copy)} : jawsOfValues ((storedJaws copy).map Prod.fst)
    = (List.range 4).map fun g => if crossed copy g then ⟨leastDefault g, greatestDefault g⟩
      else ⟨if 10 ≤ wordAt copy (21 + 4 * g) ∧ wordAt copy (21 + 4 * g) ≤ 1200 then wordAt copy (21 + 4 * g)
          else leastDefault g,
        if 10 ≤ wordAt copy (23 + 4 * g) ∧ wordAt copy (23 + 4 * g) ≤ 1200 then wordAt copy (23 + 4 * g)
          else greatestDefault g⟩ := by
  rw [storedJaws, List.map_flatMap]
  refine (jawsOfValues_flatMap (fun g => (storedPair copy g).1.1) (fun g => (storedPair copy g).2.1) _).trans
    (List.map_congr_left fun g _ => ?_)
  split
  · next h => rw [storedPair_of_crossed copy h]
  · next h => rw [storedPair_of_not_crossed copy h, (loadField_interval ..).1, (loadField_interval ..).1]

/-- R186: the marks of sections 0 to 3, in the order of the table. -/
theorem defaultedFields_eq {_ : Decidable (rolesClash fun i => storedRole (byteAt copy i) i)}
    {_ : DecidablePred (crossed copy)} : defaultedFields copy
    = (if rolesClash fun i => storedRole (byteAt copy i) i then 5
      else ((List.range 5).map fun i => outside (byteAt copy i) 0 5).sum)
    + ((List.range 16).map fun i => outside (byteAt copy (5 + i)) 0 4).sum
    + ((List.range 4).map fun g => if crossed copy g then 2
      else outside (wordAt copy (21 + 4 * g)) 10 1200 + outside (wordAt copy (23 + 4 * g)) 10 1200).sum
    + outside (wordAt copy 37) 5 300 + outside (wordAt copy 39) 5 300
    + outside (byteAt copy 41) 0 7 + outside (byteAt copy 42) 0 3 + outside (wordAt copy 43) 50 1000
    + outside (byteAt copy 45) 1 255 + outside (wordAt copy 46) 5 600 + outside (wordAt copy 48) 5 600
    + outside (byteAt copy 50) 0 1 + (if byteAt copy 51 ∈ [4, 8, 16, 32] then 0 else 1)
    + (if byteAt copy 52 ∈ [1, 2, 4, 8] then 0 else 1) + outside (byteAt copy 53) 0 1
    + outside (byteAt copy 54) 0 8 + outside (byteAt copy 55) 32 64 := by
  have hsections : defaultedFields copy = marks (loadFromCopy copy 0) + marks (loadFromCopy copy 1)
      + marks (loadFromCopy copy 2) + marks (loadFromCopy copy 3) := by
    change marks ([0, 1, 2, 3].flatMap (loadFromCopy copy)) = _
    simp only [List.flatMap_cons, List.flatMap_nil, marks_append, marks_nil, Nat.add_zero, Nat.add_assoc]
  rw [← marks_loadRoles, ← marks_storedAssignment, ← marks_storedJaws, hsections, loadFromCopy_zero, loadFromCopy_one,
    loadFromCopy_two, loadFromCopy_three]
  simp only [marks_append, marks_cons, marks_nil, (loadField_interval ..).2, (loadField_oneOf ..).2]
  omega

end

theorem byteAt_le (bs : List Byte) (i : Nat) : byteAt bs i ≤ 255 := by
  have := (bs.getD i 0#8).isLt
  unfold byteAt
  omega

theorem roleOfByte_storedRole (f : Nat → Nat) (i : Nat) :
    roleOfByte (loadField (interval 1 0 5 (i + 1)) (f i)).1
      = [Role.none, .infeed, .caser, .shuttle, .outfeed, .jacketer].getD (storedRole (f i) i) .none := by
  rw [roleOfByte_eq_getD, (loadField_interval ..).1]
  simp [storedRole]

/-- Settles O6, section by section of the copy. -/
theorem storedProfileIsJudged : Obligations.StoredProfileIsJudged := by
  unfold Obligations.StoredProfileIsJudged
  refine ⟨fun copy _ => ?_, profileFromCopy_legal⟩
  obtain ⟨hunload, hover⟩ := profileFromCopy_times copy
  obtain ⟨hcase, hjacket, hhold, hwait⟩ := profileFromCopy_matching copy
  obtain ⟨hidle1, hidle2⟩ := profileFromCopy_idle copy
  obtain ⟨hcycling, hfast, hslow⟩ := profileFromCopy_recovery copy
  obtain ⟨hglue, hlow, hhigh⟩ := profileFromCopy_levels copy
  refine ⟨fun hclash => ?_, fun hclash => ?_, ?_, ?_, hunload.trans (loadField_interval ..).1,
    hover.trans (loadField_interval ..).1, ?_, hcase.trans ?_, hjacket.trans ?_,
    hhold.trans (loadField_interval ..).1, hwait.trans ?_, hidle1.trans (loadField_interval ..).1,
    hidle2.trans (loadField_interval ..).1, hcycling.trans ?_, hfast.trans (loadField_oneOf ..).1,
    hslow.trans (loadField_oneOf ..).1, hglue.trans ?_, hlow.trans ?_, hhigh.trans (loadField_interval ..).1⟩
  · rw [profileFromCopy_roles, loadRoles_of_clash (f := byteAt copy) hclash]
    rfl
  · rw [profileFromCopy_roles, loadRoles_of_distinct (f := byteAt copy) hclash, loadFields_roleSpecs, List.map_map, List.map_map]
    exact List.map_congr_left fun i _ => roleOfByte_storedRole (byteAt copy) i
  · rw [profileFromCopy_assignment, storedAssignment, List.map_map, List.map_map]
    refine List.map_congr_left fun i _ => (groupOfByte_eq_getD _).trans ?_
    rw [(loadField_interval ..).1]
    simp [byteAt]
  · exact (profileFromCopy_jaws copy).trans (storedJaws_ranges copy)
  · exact defaultedFields_eq copy
  · simp [(loadField_interval ..).1, byteAt]
  · simp [(loadField_interval ..).1, byteAt]
  · have hbyte := byteAt_le copy 45
    rw [(loadField_interval ..).1]
    exact if_congr (and_iff_left hbyte) rfl rfl
  · rw [(loadField_interval ..).1]
    change _ = (byteAt copy 50 == 1)
    rw [Bool.eq_iff_iff, beq_iff_eq, beq_iff_eq]
    split <;> omega
  · rw [(loadField_interval ..).1]
    change _ = (byteAt copy 53 != 0)
    rw [Bool.eq_iff_iff, beq_iff_eq, bne_iff_ne]
    split <;> omega
  · simp [(loadField_interval ..).1, byteAt]

end Sys2Proof.Machine

/-! SUPPORT. The fronts of the caser and the jacketer, and the first usable match of a window (R46, R47, R87, R88,
R137). -/

namespace Sys2Proof.Machine

variable {s t : State}

/-! ### Records by their number -/

/-- R58: an update that keeps the number. -/
theorem State.volume?_updVolume (n m : Nat) {f : Volume → Volume} (hf : ∀ v, (f v).number = v.number) :
    (s.updVolume n f).volume? m = (s.volume? m).map fun v => if v.number = n then f v else v := by
  unfold State.volume? State.updVolume
  rw [List.find?_map]
  refine congrArg (Option.map _) (congrArg (List.find? · s.volumes) (funext fun v => ?_))
  simp only [Function.comp]
  split <;> simp [hf]

theorem filter_bne_eq {α : Type} (f : α → Nat) (n : Nat) (l : List α) :
    (l.filter fun a => f a != n) = l.filter fun a => f a ≠ n :=
  List.filter_congr fun a _ => by
    rw [Bool.eq_iff_iff]
    simp

theorem find?_filter_ne {l : List Volume} {n m : Nat} (h : m ≠ n) :
    (l.filter fun v => v.number != n).find? (fun v => v.number == m) = l.find? fun v => v.number == m := by
  rw [List.find?_filter]
  refine congrArg (List.find? · l) (funext fun v => ?_)
  by_cases hv : v.number = m
  · simp [hv, h]
  · simp [hv]

/-! ### The jacketer's front -/

/-- R47: the jacketer has no front. -/
theorem State.jacketerFront_eq_none_iff : s.jacketerFront = none
    ↔ ∀ n ∈ s.postPress, ∀ v, s.volume? n = some v → v.state ≠ .awaitJacket := by
  unfold State.jacketerFront State.postPressVolumes
  rw [List.find?_eq_none]
  simp only [List.mem_filterMap, beq_iff_eq]
  exact ⟨fun h n hn v hv => h v ⟨n, hn, hv⟩, fun h v ⟨n, hn, hv⟩ => h n hn v hv⟩

/-- R144: no volume came AWAIT_JACKET. -/
def State.NoNewFront (s t : State) : Prop := s.jacketerFront = none → t.jacketerFront = none

theorem State.afterFront_of_noNewFront (h : s.NoNewFront t) : t.afterFront s = t := by
  unfold State.afterFront
  cases hs : s.jacketerFront with
  | none =>
    rw [h hs]
    rfl
  | some v => rfl

theorem State.noNewFront_of_records (hpost : ∀ n ∈ t.postPress, ∀ v, t.volume? n = some v → v.state = .awaitJacket →
    n ∈ s.postPress ∧ ∃ u, s.volume? n = some u ∧ u.state = .awaitJacket) : s.NoNewFront t := by
  intro h
  rw [State.jacketerFront_eq_none_iff] at h ⊢
  intro n hn v hv hst
  obtain ⟨hn', u, hu, hust⟩ := hpost n hn v hv hst
  exact h n hn' u hu hust

/-- R144: an update of one record that leaves it in another state. -/
theorem State.noNewFront_updVolume (n : Nat) {f : Volume → Volume} (hnum : ∀ v, (f v).number = v.number)
    (hst : ∀ v, (f v).state = .awaitJacket → v.state = .awaitJacket) : s.NoNewFront (s.updVolume n f) := by
  refine State.noNewFront_of_records fun m hm v hv hvst => ⟨hm, ?_⟩
  rw [State.volume?_updVolume n m hnum, Option.map_eq_some_iff] at hv
  obtain ⟨u, hu, rfl⟩ := hv
  refine ⟨u, hu, ?_⟩
  split at hvst
  · exact hst u hvst
  · exact hvst

/-- R58: a removal gives the jacketer no front. -/
theorem State.noNewFront_removeVolume (k : Removal) (v : Volume) : s.NoNewFront (s.removeVolume k v) := by
  refine State.noNewFront_of_records fun m hm u hu hst => ?_
  rw [State.removeVolume_postPress, List.mem_filter, bne_iff_ne] at hm
  rw [State.volume?, State.removeVolume_volumes, find?_filter_ne hm.2] at hu
  exact ⟨hm.1, u, hu, hst⟩

/-! ### The first usable match -/

/-- R88, R137: the first entry that fits, at its depth. -/
theorem find?_zipIdx {α : Type} {p : α → Bool} {w : List α} {k j : Nat} {a : α} (hk : w[k]? = some a) (hp : p a = true)
    (hfirst : ∀ i b, i < k → w[i]? = some b → p b = false) :
    (w.zipIdx j).find? (fun x => p x.1) = some (a, j + k) := by
  induction w generalizing k j with
  | nil => simp at hk
  | cons b w ih =>
    rw [List.zipIdx_cons]
    cases k with
    | zero =>
      obtain rfl : b = a := by simpa using hk
      simp [hp]
    | succ k =>
      have hb : p b = false := hfirst 0 b (by omega) rfl
      rw [List.find?_cons_of_neg (by simp [hb])]
      rw [ih (by simpa using hk) fun i c hi hc => hfirst (i + 1) c (by omega) (by simpa using hc)]
      congr 2
      omega

/-- R88, R137: a usable match is the first entry that fits, within the skip limit. -/
theorem usableMatch_of_first {p : WindowEntry → Bool} {skip k : Nat} {w : List WindowEntry} {e : WindowEntry}
    (hk : w[k]? = some e) (hp : p e = true) (hfirst : ∀ i e', i < k → w[i]? = some e' → p e' = false)
    (hskip : k ≤ skip) : usableMatch p skip w = some (k, e) := by
  unfold usableMatch
  rw [find?_zipIdx hk hp hfirst, Nat.zero_add]
  exact if_pos hskip

theorem usableMatch_of_none {p : WindowEntry → Bool} {skip : Nat} {w : List WindowEntry}
    (hnone : ∀ i e, i ≤ skip → w[i]? = some e → p e = false) : usableMatch p skip w = none := by
  unfold usableMatch
  split
  · rfl
  · next e k hfind =>
    have hentry := List.mem_zipIdx_iff_getElem?.1 (List.mem_of_find?_eq_some hfind)
    have hfit : p e = true := by simpa using List.find?_some hfind
    refine if_neg fun hk => ?_
    rw [hnone k e hk hentry] at hfit
    cases hfit

end Sys2Proof.Machine

/-! SUPPORT. CASE_CALL test by test (R89), and the claim about it at its arrival. -/

namespace Sys2Proof.Machine

variable {s : State} {l : Line} {v : Volume} {last : Bool}

/-! ### A query answered -/

/-- R170: an answer that gives the jacketer no front is all that the evaluation leaves. -/
theorem State.evaluate_of_answer {h : HeldQuery} {t : State} {a : Answer}
    (e : evalQuery h.query last s = some (t, a)) (hfront : s.NoNewFront t) : s.evaluate l h last = t.answerSlot l a :=
  (State.evaluate_of_some e).trans (State.afterFront_of_noNewFront hfront)

theorem exec_caseCall_of_none (h : s.Asks l .caseCall) (e : evalCaseCall false s = none) :
    exec (.caseCall l) s = .next (s.setSlot l (.held ⟨.caseCall, s.clock, s.profile.holdLimit⟩)) :=
  (exec_caseCall h).trans (congrArg Host.Outcome.next (State.evaluate_of_none e))

theorem exec_caseCall_of_some (h : s.Asks l .caseCall) {t : State} {a : Answer} (e : evalCaseCall false s = some (t, a))
    (hfront : s.NoNewFront t) : exec (.caseCall l) s = .next (t.answerSlot l a) :=
  (exec_caseCall h).trans (congrArg Host.Outcome.next (State.evaluate_of_answer e hfront))

/-! ### R89, test by test -/

theorem evalCaseCall_of_noFront (h : s.caserFront = none) (last : Bool) :
    evalCaseCall last s = if last then some (s, caseWaitAnswer none) else none := by
  unfold evalCaseCall
  rw [h]

theorem evalCaseCall_of_halted (h : s.caserFront = some v) (hpace : s.Halted) (last : Bool) :
    evalCaseCall last s = if last then some (s, caseWaitAnswer (some v.number)) else none := by
  unfold evalCaseCall
  rw [h]
  exact if_pos ((paceRank_le_two_iff _).2 hpace)

/-- R89: with a front and at a pace that cases, the tests of the front itself follow. -/
theorem not_halted_rank (hpace : ¬ s.Halted) : ¬ paceRank s.governor.effective ≤ paceRank .hold :=
  mt (paceRank_le_two_iff _).1 hpace

theorem evalCaseCall_of_mark (h : s.caserFront = some v) (hpace : ¬ s.Halted) {m : DivertMark}
    (hm : v.bound.bind BindPart.mark = some m) (last : Bool) :
    evalCaseCall last s = some (divertAtCaser v (markReason m) s) := by
  unfold evalCaseCall
  rw [h]
  dsimp only
  rw [if_neg (not_halted_rank hpace), hm]

theorem evalCaseCall_of_awaitTitle (h : s.caserFront = some v) (hpace : ¬ s.Halted)
    (hm : v.bound.bind BindPart.mark = none) (hst : v.state = .awaitTitle) (last : Bool) :
    evalCaseCall last s = if last then some (caseWaitCounted v .noTitle s) else none := by
  unfold evalCaseCall
  rw [h]
  dsimp only
  rw [if_neg (not_halted_rank hpace), hm]
  exact if_pos hst

theorem evalCaseCall_of_match (h : s.caserFront = some v) (hpace : ¬ s.Halted)
    (hm : v.bound.bind BindPart.mark = none) (hst : v.state ≠ .awaitTitle) {k : Nat} {e : WindowEntry}
    (hmatch : s.caseMatchFor v = some (k, e)) (last : Bool) :
    evalCaseCall last s = some (takeCase v k e.tag s) := by
  unfold evalCaseCall
  rw [h]
  dsimp only
  rw [if_neg (not_halted_rank hpace), hm]
  dsimp only
  rw [if_neg hst, hmatch]

theorem evalCaseCall_of_room (h : s.caserFront = some v) (hpace : ¬ s.Halted)
    (hm : v.bound.bind BindPart.mark = none) (hst : v.state ≠ .awaitTitle) (hmatch : s.caseMatchFor v = none)
    (hroom : s.caseWindow.length < 8) (last : Bool) :
    evalCaseCall last s = if last then some (caseWaitCounted v .noCase s) else none := by
  unfold evalCaseCall
  rw [h]
  dsimp only
  rw [if_neg (not_halted_rank hpace), hm]
  dsimp only
  rw [if_neg hst, hmatch]
  exact if_pos hroom

theorem evalCaseCall_of_full (h : s.caserFront = some v) (hpace : ¬ s.Halted)
    (hm : v.bound.bind BindPart.mark = none) (hst : v.state ≠ .awaitTitle) (hmatch : s.caseMatchFor v = none)
    (hfull : 8 ≤ s.caseWindow.length) (last : Bool) :
    evalCaseCall last s = some (divertAtCaser v .noCase s) := by
  unfold evalCaseCall
  rw [h]
  dsimp only
  rw [if_neg (not_halted_rank hpace), hm]
  dsimp only
  rw [if_neg hst, hmatch]
  exact if_neg (Nat.not_lt.2 hfull)

/-! ### What fits, and what an answer changes -/

/-- R87: a case matches a volume. -/
theorem caseMatches_iff (t : Title) (v : Volume) (e : WindowEntry) : caseMatches t v e = true
    ↔ e.double = false ∧ e.tag.title = v.title ∧ (t.marry = .run ∨ e.tag.number = v.unit % 1048576) := by
  simp [caseMatches, and_assoc]

theorem State.caseMatchFor_of_title {t : Title} (ht : s.title? v.title = some t) :
    s.caseMatchFor v = usableMatch (caseMatches t v) s.profile.caseSkip s.caseWindow := by
  unfold State.caseMatchFor
  rw [ht]

theorem noNewFront_divertAtCaser (v : Volume) (r : Reason) (s : State) : s.NoNewFront (divertAtCaser v r s).1 :=
  State.noNewFront_removeVolume (s := s) .diverted v

theorem noNewFront_takeCase (v : Volume) (k : Nat) (tag : Tag) (s : State) : s.NoNewFront (takeCase v k tag s).1 :=
  State.noNewFront_updVolume (s := s) v.number (f := fun u => { u with state := .casing, caseTag := some tag })
    (fun _ => rfl) fun _ h => by cases h

/-- R98: a front with a divert mark, or without a case at a full window, is diverted. -/
theorem exec_caseCall_of_divert (h : s.Asks l .caseCall) {r : Reason}
    (e : evalCaseCall false s = some (divertAtCaser v r s)) : exec (.caseCall l) s
      = .next ((State.raise .divert (s.removeVolume .diverted v)).answerSlot l
        ⟨0x21, .divert, some r, [BitVec.ofNat 8 v.number]⟩) :=
  exec_caseCall_of_some h e (noNewFront_divertAtCaser v r s)

/-- Settles O26. -/
theorem caseCallMarriesFrontVolume : Obligations.CaseCallMarriesFrontVolume := by
  unfold Obligations.CaseCallMarriesFrontVolume
  intro s l h
  refine ⟨fun hheld => exec_caseCall_of_none h ?_, fun v hfront hpace =>
    ⟨fun m hm => ?_, fun hm => ⟨fun hst => exec_caseCall_of_none h (evalCaseCall_of_awaitTitle hfront hpace hm hst false),
      fun t hst ht => ?_⟩⟩⟩
  · cases hfront : s.caserFront with
    | none => exact evalCaseCall_of_noFront hfront false
    | some v => exact evalCaseCall_of_halted hfront (hheld.resolve_left (by simp [hfront])) false
  · refine (exec_caseCall_of_divert h (evalCaseCall_of_mark hfront hpace hm false)).trans ?_
    cases m <;> rfl
  · have hst' : v.state ≠ .awaitTitle := by simp [hst]
    have hmatch := State.caseMatchFor_of_title (v := v) ht
    refine ⟨fun k e hk hfit hfirst hskip => ?_, fun hnone => ?_⟩
    · have heval := evalCaseCall_of_match hfront hpace hm hst' (hmatch.trans (usableMatch_of_first hk
        ((caseMatches_iff t v e).2 hfit) (fun j e' hj he' => by simpa using mt (caseMatches_iff t v e').1 (hfirst j e' hj he'))
        hskip)) false
      exact exec_caseCall_of_some h heval (noNewFront_takeCase v k e.tag s)
    · have hmatch := hmatch.trans (usableMatch_of_none fun j e hj he => by
        simpa using mt (caseMatches_iff t v e).1 (hnone j e hj he))
      exact ⟨fun hroom => exec_caseCall_of_none h (evalCaseCall_of_room hfront hpace hm hst' hmatch hroom false),
        fun hfull => exec_caseCall_of_divert h (evalCaseCall_of_full hfront hpace hm hst' hmatch hfull false)⟩

end Sys2Proof.Machine

/-! SUPPORT. NEXT_MOVE test by test (R109 to R112), and the claim about it at its arrival. -/

namespace Sys2Proof.Machine

variable {s : State} {l : Line} {last : Bool}

theorem State.jacketerFront_congr {t : State} (hpost : t.postPress = s.postPress) (hvol : t.volumes = s.volumes) :
    t.jacketerFront = s.jacketerFront := by
  have hfind : t.volume? = s.volume? := funext fun n => by rw [State.volume?, State.volume?, hvol]
  rw [State.jacketerFront, State.jacketerFront, State.postPressVolumes, State.postPressVolumes, hpost, hfind]

theorem State.NoNewFront.repace {t : State} (h : s.NoNewFront t) : s.NoNewFront t.repace := fun hs =>
  (State.jacketerFront_congr (State.repace_postPress t) (State.repace_volumes t)).trans (h hs)

/-! ### R109, test by test -/

/-- R109: U goes first where L is absent, where it is old enough, or where the bank is nearly full. -/
theorem evalNextMove_unload {t b : Nat} (hu : s.unloadCandidate = some (t, b))
    (hfirst : s.loadCandidate = none ∨ s.unloadFirst t = true) (last : Bool) :
    evalNextMove last s = some (unloadBay b s) := by
  unfold evalNextMove
  rw [hu]
  cases hl : s.loadCandidate with
  | none => rfl
  | some p => exact if_pos (hfirst.resolve_left (by simp [hl]))

theorem evalNextMove_load {v : Volume} {b : Nat} (hl : s.loadCandidate = some (v, b))
    (hfirst : s.unloadCandidate = none ∨ ∃ t c, s.unloadCandidate = some (t, c) ∧ s.unloadFirst t = false) (last : Bool) :
    evalNextMove last s = some (loadVolume v b s) := by
  unfold evalNextMove
  rw [hl]
  obtain hu | ⟨t, c, hu, hold⟩ := hfirst
  · rw [hu]
  · rw [hu]
    exact if_neg (by simp [hold])

theorem evalNextMove_none (hu : s.unloadCandidate = none) (hl : s.loadCandidate = none) (last : Bool) :
    evalNextMove last s = if last then some (s, moveWaitAnswer) else none := by
  unfold evalNextMove
  rw [hu, hl]

theorem State.unloadFirst_iff (t : Nat) :
    s.unloadFirst t = true ↔ s.profile.unloadAge * 100 ≤ s.clock - t ∨ s.vacantCount < 2 := by
  simp [State.unloadFirst]

/-! ### What an answer changes -/

theorem State.dwellFor_of_bound {v : Volume} {p : BindPart} {tt : Title} (hp : v.bound = some p)
    (ht : s.title? v.title = some tt) :
    s.dwellFor v = dwellOf tt.dwellBase tt.dwellSlope p.tBlk s.governor.lines.platenLow := by
  unfold State.dwellFor
  rw [ht, hp]
  rfl

theorem unloadBay_of_volume {b n : Nat} {r : Bay} (hb : s.bays[b]? = some r) (hn : r.volume = some n) : unloadBay b s
    = ({ s with
        bays := s.bays.set b { r with state := .emptying, overdwellDue := none }
        volumes := s.volumes.map fun u => if u.number = n then { u with state := .unloading } else u
        postPress := s.postPress ++ [n] }, unloadAnswer b n) := by
  rw [unloadBay_of_bay hb, hn]
  rfl

/-- R112: the volume unloaded joins the post-press sequence in UNLOADING. -/
theorem noNewFront_unload (n : Nat) (bays : List Bay) : s.NoNewFront { s with
    bays := bays
    volumes := s.volumes.map fun u => if u.number = n then { u with state := .unloading } else u
    postPress := s.postPress ++ [n] } := by
  refine State.noNewFront_of_records fun m hm v hv hst => ?_
  have hv' : (s.volume? m).map (fun u => if u.number = n then { u with state := .unloading } else u) = some v :=
    (State.volume?_updVolume n m (f := fun u => { u with state := .unloading }) fun _ => rfl).symm.trans hv
  obtain ⟨u, hu, rfl⟩ := Option.map_eq_some_iff.1 hv'
  by_cases hn : u.number = n
  · simp [hn] at hst
  · rw [if_neg hn] at hst
    have hm' : m ≠ n := (State.mem_of_volume? hu).2 ▸ hn
    exact ⟨by simpa [hm'] using hm, u, hu, hst⟩

theorem noNewFront_loadVolume (v : Volume) (b : Nat) (s : State) : s.NoNewFront (loadVolume v b s).1 :=
  State.NoNewFront.repace (State.noNewFront_updVolume (s := s) v.number
    (f := fun u => { u with state := .loading, bay := some b, dwell := some (s.dwellFor v) }) (fun _ => rfl)
    fun _ h => by cases h)

theorem exec_nextMove_of_some (h : s.Asks l .nextMove) {t : State} {a : Answer} (e : evalNextMove false s = some (t, a))
    (hfront : s.NoNewFront t) : exec (.nextMove l) s = .next (t.answerSlot l a) :=
  (exec_nextMove h).trans (congrArg Host.Outcome.next (State.evaluate_of_answer e hfront))

/-- Settles O28. -/
theorem nextMoveArbitrates : Obligations.NextMoveArbitrates := by
  unfold Obligations.NextMoveArbitrates
  intro s l h
  refine ⟨fun hu hl => ?_, fun t b r n hu hb hn hfirst => ?_, fun v b p tt tag hl hp ht htag hfirst => ?_⟩
  · exact (exec_nextMove h).trans (congrArg Host.Outcome.next (State.evaluate_of_none (evalNextMove_none hu hl false)))
  · have heval := evalNextMove_unload hu (hfirst.imp_right (State.unloadFirst_iff t).2) false
    rw [unloadBay_of_volume hb hn] at heval
    exact exec_nextMove_of_some h heval (noNewFront_unload n _)
  · have hlast : s.unloadCandidate = none ∨ ∃ t c, s.unloadCandidate = some (t, c) ∧ s.unloadFirst t = false := by
      refine hfirst.imp_right fun ⟨t, c, hu, hage, hvacant⟩ => ⟨t, c, hu, ?_⟩
      rw [← Bool.not_eq_true, State.unloadFirst_iff]
      omega
    refine (exec_nextMove_of_some h (evalNextMove_load hl hlast false) (noNewFront_loadVolume v b s)).trans ?_
    rw [← State.dwellFor_of_bound hp ht]
    simp only [loadAnswer, htag]
    rfl

end Sys2Proof.Machine

/-! SUPPORT. FOLD_CALL test by test (R139 to R143), and the claim about it at its arrival. -/

namespace Sys2Proof.Machine

variable {s : State} {l : Line} {v : Volume} {t : Title} {j : JacketPart} {last : Bool}

/-! ### R139, test by test -/

theorem evalFoldCall_of_noFront (h : s.jacketerFront = none) (last : Bool) :
    evalFoldCall last s = if last then some (s, foldWaitAnswer none) else none := by
  unfold evalFoldCall
  rw [h]

theorem evalFoldCall_of_stop (h : s.jacketerFront = some v) (hstop : s.governor.effective = .stop) (last : Bool) :
    evalFoldCall last s = if last then some (s, foldWaitAnswer (some v.number)) else none := by
  unfold evalFoldCall
  rw [h]
  exact if_pos hstop

theorem evalFoldCall_of_plain (h : s.jacketerFront = some v) (hpace : s.governor.effective ≠ .stop)
    (hjacket : s.jacketOf v = none) (last : Bool) :
    evalFoldCall last s = some (s.giveFinish v.number .plain, plainAnswer v.number) := by
  unfold evalFoldCall
  rw [h]
  dsimp only
  rw [if_neg hpace, hjacket]

theorem evalFoldCall_of_match (h : s.jacketerFront = some v) (hpace : s.governor.effective ≠ .stop)
    (hjacket : s.jacketOf v = some (t, j)) {k : Nat} {e : WindowEntry}
    (hmatch : usableMatch (jacketMatches t v) s.profile.jacketSkip s.jacketWindow = some (k, e)) (last : Bool) :
    evalFoldCall last s = some (foldAt v t.marry j k e.tag s) := by
  unfold evalFoldCall
  rw [h]
  dsimp only
  rw [if_neg hpace, hjacket]
  dsimp only
  rw [hmatch]

theorem evalFoldCall_of_room (h : s.jacketerFront = some v) (hpace : s.governor.effective ≠ .stop)
    (hjacket : s.jacketOf v = some (t, j))
    (hmatch : usableMatch (jacketMatches t v) s.profile.jacketSkip s.jacketWindow = none)
    (hroom : s.jacketWindow.length < 4) (last : Bool) :
    evalFoldCall last s = if last then some (foldWaitCounted v s) else none := by
  unfold evalFoldCall
  rw [h]
  dsimp only
  rw [if_neg hpace, hjacket]
  dsimp only
  rw [hmatch]
  exact if_pos hroom

theorem evalFoldCall_of_full (h : s.jacketerFront = some v) (hpace : s.governor.effective ≠ .stop)
    (hjacket : s.jacketOf v = some (t, j))
    (hmatch : usableMatch (jacketMatches t v) s.profile.jacketSkip s.jacketWindow = none)
    (hfull : 4 ≤ s.jacketWindow.length) (last : Bool) :
    evalFoldCall last s = some (bareDelivery v 0 .noJacket s.jacketWindow s) := by
  unfold evalFoldCall
  rw [h]
  dsimp only
  rw [if_neg hpace, hjacket]
  dsimp only
  rw [hmatch]
  exact if_neg (Nat.not_lt.2 hfull)

/-! ### What fits, and what an answer changes -/

/-- R137: a jacket matches a volume. -/
theorem jacketMatches_iff (t : Title) (v : Volume) (e : WindowEntry) : jacketMatches t v e = true
    ↔ e.double = false ∧ e.tag.title = v.title ∧ (t.marry = .run ∨ e.tag.number = v.unit) := by
  simp [jacketMatches, and_assoc]

theorem State.jacketOf_of_title (ht : s.title? v.title = some t) : s.jacketOf v = t.jacket.map fun j => (t, j) := by
  unfold State.jacketOf
  rw [ht]

theorem foldAt_of_passes {d k f1 f2 f3 f4 : Nat} (hd : v.tOut = some d) (hplan : foldPlan j d = .passes f1 f2 f3 f4)
    (marry : Marry) (tag : Tag) : foldAt v marry j k tag s
      = ({ s with jacketWindow := s.jacketWindow.drop (k + 1) }.giveFinish v.number (.fold k f1 f2 f3 f4),
        foldAnswer v.number k f1 f2 f3 f4 tag) := by
  unfold foldAt
  rw [hd]
  dsimp only [Option.getD_some]
  rw [hplan]

/-- R142: the jackets that a failed plan ejects: a run jacket stays, a unit jacket goes too. -/
theorem foldAt_of_fails {d k : Nat} {why : BareReason} (hd : v.tOut = some d) (hplan : foldPlan j d = .fails why)
    (tag : Tag) :
    foldAt v .run j k tag s = bareDelivery v k why (s.jacketWindow.drop k) s
      ∧ foldAt v .unit j k tag s = bareDelivery v (k + 1) why (s.jacketWindow.drop (k + 1)) s := by
  unfold foldAt
  rw [hd]
  dsimp only [Option.getD_some]
  rw [hplan]
  exact ⟨rfl, rfl⟩

/-- R82, R139: a finish takes the volume to JACKETING. -/
theorem noNewFront_giveFinish (n : Nat) (f : Finish) (window : List WindowEntry) :
    s.NoNewFront ({ s with jacketWindow := window }.giveFinish n f) :=
  State.noNewFront_updVolume (s := s) n (f := fun v => { v with state := .jacketing, finish := some f }) (fun _ => rfl)
    fun _ h => by cases h

theorem exec_foldCall_of_none (h : s.Asks l .foldCall) (e : evalFoldCall false s = none) :
    exec (.foldCall l) s = .next (s.setSlot l (.held ⟨.foldCall, s.clock, s.profile.holdLimit⟩)) :=
  (exec_foldCall h).trans (congrArg Host.Outcome.next (State.evaluate_of_none e))

/-- R139: an answer with a finish. -/
theorem exec_foldCall_of_finish (h : s.Asks l .foldCall) {n : Nat} {f : Finish} {window : List WindowEntry} {a : Answer}
    (e : evalFoldCall false s = some ({ s with jacketWindow := window }.giveFinish n f, a)) :
    exec (.foldCall l) s = .next (({ s with jacketWindow := window }.giveFinish n f).answerSlot l a) :=
  (exec_foldCall h).trans (congrArg Host.Outcome.next (State.evaluate_of_answer e (noNewFront_giveFinish n f window)))

/-- R142, R143: a BARE answer. -/
theorem exec_foldCall_of_bare (h : s.Asks l .foldCall) {eject : Nat} {why : BareReason} {window : List WindowEntry}
    (e : evalFoldCall false s = some (bareDelivery v eject why window s)) :
    exec (.foldCall l) s = .next ((State.raise .bare
      ({ s with jacketWindow := window }.giveFinish v.number (.bare why))).answerSlot l
        (bareAnswer v.number eject why)) :=
  (exec_foldCall h).trans (congrArg Host.Outcome.next (State.evaluate_of_answer e
    (noNewFront_giveFinish v.number (.bare why) window)))

/-- Settles O30. -/
theorem foldCallFindsJacket : Obligations.FoldCallFindsJacket := by
  unfold Obligations.FoldCallFindsJacket
  intro s l h
  refine ⟨fun hheld => exec_foldCall_of_none h ?_, fun v t hfront hpace ht => ⟨fun hplain => ?_, fun j hj => ?_⟩⟩
  · cases hfront : s.jacketerFront with
    | none => exact evalFoldCall_of_noFront hfront false
    | some v => exact evalFoldCall_of_stop hfront (hheld.resolve_left (by simp [hfront])) false
  · have hjacket : s.jacketOf v = none := by rw [State.jacketOf_of_title ht, hplain]; rfl
    exact exec_foldCall_of_finish h (window := s.jacketWindow) (evalFoldCall_of_plain hfront hpace hjacket false)
  · have hjacket : s.jacketOf v = some (t, j) := by rw [State.jacketOf_of_title ht, hj]; rfl
    refine ⟨fun k e d hk hfit hfirst hskip hd => ?_, fun hnone => ?_⟩
    · have heval := evalFoldCall_of_match hfront hpace hjacket (usableMatch_of_first hk ((jacketMatches_iff t v e).2 hfit)
        (fun i e' hi he' => by simpa using mt (jacketMatches_iff t v e').1 (hfirst i e' hi he')) hskip) false
      refine ⟨fun f1 f2 f3 f4 hplan => ?_, fun why hplan => ?_⟩
      · rw [foldAt_of_passes hd hplan] at heval
        exact exec_foldCall_of_finish h heval
      · obtain ⟨hrun, hunit⟩ := foldAt_of_fails (s := s) (k := k) hd hplan e.tag
        refine ⟨fun hmarry => ?_, fun hmarry => ?_⟩
        · rw [hmarry, hrun] at heval
          exact exec_foldCall_of_bare h heval
        · rw [hmarry, hunit] at heval
          exact exec_foldCall_of_bare h heval
    · have hmatch := usableMatch_of_none (skip := s.profile.jacketSkip) fun i e hi he => by
        simpa using mt (jacketMatches_iff t v e).1 (hnone i e hi he)
      exact ⟨fun hroom => exec_foldCall_of_none h (evalFoldCall_of_room hfront hpace hjacket hmatch hroom false),
        fun hfull => exec_foldCall_of_bare h (evalFoldCall_of_full hfront hpace hjacket hmatch hfull false)⟩

end Sys2Proof.Machine

/-! SUPPORT. GAUGE test by test (R129 to R134), the volume taken at the outfeed (R132) and those that go MISSING
(R130), and the claim about them. -/

namespace Sys2Proof.Machine

variable {s : State} {l : Line} {v : Volume} {tag : Tag} {raw : Nat} {last : Bool}

/-! ### R129, test by test -/

theorem evalGauge_untagged_of_none (h : s.onOutfeed = []) (raw : Nat) (last : Bool) :
    evalGauge none raw last s = some (strayPiece s) := by
  unfold evalGauge
  dsimp only
  rw [h]

theorem evalGauge_untagged_of_front {vs : List Volume} (h : s.onOutfeed = v :: vs) (raw : Nat) (last : Bool) :
    evalGauge none raw last s
      = some (takeAtOutfeed v raw 0 false (s.updVolume v.number fun u => { u with unverified := true })) := by
  unfold evalGauge
  dsimp only
  rw [h]

/-- R130: the outfeed split at the first volume that carries the tag. -/
theorem span_tagged {ahead vs : List Volume} (hahead : ∀ u ∈ ahead, u.caseTag ≠ some tag) (hv : v.caseTag = some tag) :
    (ahead ++ v :: vs).span (fun u => u.caseTag != some tag) = (ahead, v :: vs) := by
  have hkeep : ∀ u ∈ ahead, (u.caseTag != some tag) = true := fun u hu => by simpa using hahead u hu
  rw [List.span_eq_takeWhile_dropWhile, List.takeWhile_append_of_pos hkeep, List.dropWhile_append_of_pos hkeep,
    List.takeWhile_cons_of_neg (by simp [hv]), List.dropWhile_cons_of_neg (by simp [hv]), List.append_nil]

theorem span_untagged {vs : List Volume} (h : ∀ u ∈ vs, u.caseTag ≠ some tag) :
    vs.span (fun u => u.caseTag != some tag) = (vs, []) := by
  have hkeep : ∀ u ∈ vs, (u.caseTag != some tag) = true := fun u hu => by simpa using h u hu
  rw [List.span_eq_takeWhile_dropWhile, List.takeWhile_eq_self_iff.2 hkeep, List.dropWhile_eq_nil_iff.2 hkeep]

theorem evalGauge_of_onOutfeed {ahead vs : List Volume} (h : s.onOutfeed = ahead ++ v :: vs)
    (hv : v.caseTag = some tag) (hahead : ∀ u ∈ ahead, u.caseTag ≠ some tag) (raw : Nat) (last : Bool) :
    evalGauge (some tag) raw last s = some (takeAtOutfeed v raw ahead.length false (skipToMissing ahead s)) := by
  unfold evalGauge
  dsimp only
  rw [h, span_tagged hahead hv]

theorem evalGauge_of_missing (hout : ∀ u ∈ s.onOutfeed, u.caseTag ≠ some tag) (h : s.taggedIn .missing tag = some v)
    (raw : Nat) (last : Bool) : evalGauge (some tag) raw last s = some (takeAtOutfeed v raw 0 true s) := by
  unfold evalGauge
  dsimp only
  rw [span_untagged hout]
  dsimp only
  rw [h]

theorem evalGauge_of_unloading (hout : ∀ u ∈ s.onOutfeed, u.caseTag ≠ some tag) (hmiss : s.taggedIn .missing tag = none)
    (h : s.taggedIn .unloading tag = some v) (raw : Nat) (last : Bool) :
    evalGauge (some tag) raw last s = if last then some (s, gaugeWaitAnswer) else none := by
  unfold evalGauge
  dsimp only
  rw [span_untagged hout]
  dsimp only
  rw [hmiss]
  dsimp only
  rw [h]

theorem evalGauge_of_stray (hout : ∀ u ∈ s.onOutfeed, u.caseTag ≠ some tag) (hmiss : s.taggedIn .missing tag = none)
    (h : s.taggedIn .unloading tag = none) (raw : Nat) (last : Bool) :
    evalGauge (some tag) raw last s = some (strayPiece s) := by
  unfold evalGauge
  dsimp only
  rw [span_untagged hout]
  dsimp only
  rw [hmiss]
  dsimp only
  rw [h]

theorem State.taggedIn_eq_none {st : VolumeState} (h : ∀ v ∈ s.volumes, v.state = st → v.caseTag ≠ some tag) :
    s.taggedIn st tag = none :=
  List.find?_eq_none.2 fun v hv => by simpa using h v hv

theorem State.exists_taggedIn {st : VolumeState} (h : ∃ v ∈ s.volumes, v.state = st ∧ v.caseTag = some tag) :
    ∃ v, s.taggedIn st tag = some v := by
  obtain ⟨v, hv, hst, htag⟩ := h
  exact Option.isSome_iff_exists.1 (List.find?_isSome.2 ⟨v, hv, by simp [hst, htag]⟩)

/-! ### The volume taken (R132) -/

/-- R58: the one record of a number updated. -/
theorem State.updVolume_of_unique {w : Volume} {n : Nat} (hn : n = w.number)
    (hunique : ∀ u ∈ s.volumes, u.number = w.number → u = w) (f : Volume → Volume) :
    s.updVolume n f = { s with volumes := s.volumes.map fun u => if u.number = n then f w else u } := by
  subst hn
  refine congrArg (fun vs => { s with volumes := vs }) (List.map_congr_left fun u hu => ?_)
  split
  · next h => rw [hunique u hu h]
  · rfl

/-- R47: the states of the passed part. -/
theorem isPassed_eq (x : VolumeState) : x.isPassed = (x == .awaitJacket || x == .jacketing) := by
  cases x <;> rfl

/-- R47: whether a number stands in the passed part, where the one record taken is another's. -/
theorem passed_updVolume {n m : Nat} (hm : m ≠ n) {f : Volume → Volume} (hf : ∀ v, (f v).number = v.number) :
    (s.updVolume n f).volume? m = s.volume? m := by
  rw [State.volume?_updVolume n m hf]
  cases hv : s.volume? m with
  | none => rfl
  | some u => rw [Option.map_some, if_neg ((State.mem_of_volume? hv).2 ▸ hm)]

/-- R47: the post-press sequence once a volume is placed. -/
theorem State.placePassed_eq (n : Nat) {passed : Nat → Bool} (t : State)
    (h : ∀ m, m ≠ n → ((t.volume? m).map fun v => v.state.isPassed).getD false = passed m) :
    t.placePassed n = { t with
      postPress := (t.postPress.filter fun m => m ≠ n).filter passed
        ++ n :: (t.postPress.filter fun m => m ≠ n).filter fun m => !passed m } := by
  have hothers : (t.postPress.filter fun m => m != n) = t.postPress.filter fun m => m ≠ n :=
    filter_bne_eq id n t.postPress
  have hpassed : ∀ m ∈ t.postPress.filter fun m => m ≠ n,
      ((t.volume? m).map fun v => v.state.isPassed).getD false = passed m := fun m hm =>
    h m (by simpa using (List.mem_filter.1 hm).2)
  unfold State.placePassed
  rw [hothers]
  dsimp only
  rw [List.filter_congr hpassed, List.filter_congr fun m hm => congrArg Bool.not (hpassed m hm)]

/-- R132: the record of a volume once it is gauged; `held` stands in for a failed reading. -/
def gaugedRecord (raw held : Nat) (returned : Bool) (u : Volume) : Volume :=
  { u with
    tOut := some (thickness raw held), outUngauged := u.outUngauged || failedReading raw
    returned := u.returned || returned }

/-- R132: the record of a volume gauged and passed. -/
def passedRecord (raw held : Nat) (returned : Bool) (u : Volume) : Volume :=
  { gaugedRecord raw held returned u with state := .awaitJacket }

theorem State.updVolume_updVolume (n : Nat) {f : Volume → Volume} (hf : ∀ v, (f v).number = v.number)
    (g : Volume → Volume) : (s.updVolume n f).updVolume n g = s.updVolume n fun v => g (f v) := by
  refine congrArg (fun vs => { s with volumes := vs }) ((List.map_map ..).trans (List.map_congr_left fun v _ => ?_))
  simp only [Function.comp]
  split <;> simp_all

theorem takeAtOutfeed_of_fault {p : BindPart} (hp : v.bound = some p) (hfault : v.pressFault = true)
    (raw skipped : Nat) (returned : Bool) : takeAtOutfeed v raw skipped returned s
      = (State.raise .divert ((s.updVolume v.number (gaugedRecord raw p.wBook returned)).removeVolume .diverted v),
        gaugeDivertAnswer v.number) := by
  unfold takeAtOutfeed
  rw [hp]
  exact if_pos hfault

theorem takeAtOutfeed_of_pass {p : BindPart} (hp : v.bound = some p) (hfault : v.pressFault = false)
    (raw skipped : Nat) (returned : Bool) : takeAtOutfeed v raw skipped returned s
      = ((s.updVolume v.number (passedRecord raw p.wBook returned)).placePassed v.number, passAnswer v.number skipped returned) := by
  have hupd := State.updVolume_updVolume (s := s) v.number (f := gaugedRecord raw p.wBook returned) (fun _ => rfl)
    fun u => { u with state := .awaitJacket }
  unfold takeAtOutfeed
  rw [hp]
  refine (if_neg (by simp [hfault])).trans ?_
  exact congrArg (fun t => (State.placePassed v.number t, passAnswer v.number skipped returned)) hupd

/-! ### The volumes skipped (R130) -/

theorem State.anyMissing_iff : s.anyMissing = true ↔ ∃ v ∈ s.volumes, v.state = .missing := by
  simp [State.anyMissing]

theorem State.goMissing_eq (n : Nat) (gone : State) (hgone : gone = { s with
      postPress := s.postPress.filter fun m => m ≠ n
      volumes := s.volumes.map fun u => if u.number = n then { u with state := .missing } else u }) :
    s.goMissing n = State.levelRises .tracking s.anyMissing gone := by
  have hpost : (s.postPress.filter fun m => m != n) = s.postPress.filter fun m => m ≠ n :=
    filter_bne_eq id n s.postPress
  rw [hgone, ← hpost]
  rfl

section
variable {title number : Nat}

/-- R134: a GAUGE answered. -/
theorem exec_gauge_of_some (hhears : s.Hears l .gauge) (hslot : (s.station l).slot = .empty) {g : Nat}
    (hgood : goodGauge g title number raw = true) {r : State × Answer}
    (e : evalGauge (gaugeTag g title number) raw false s = some r) :
    exec (.gauge l g title number raw) s = .next ((r.1.answerSlot l r.2).afterFront s) :=
  (exec_gauge hhears hslot hgood).trans (congrArg Host.Outcome.next (State.evaluate_of_some e))

/-- R133: a STRAY piece gives the jacketer no front. -/
theorem exec_gauge_of_stray (hhears : s.Hears l .gauge) (hslot : (s.station l).slot = .empty) {g : Nat}
    (hgood : goodGauge g title number raw = true)
    (e : evalGauge (gaugeTag g title number) raw false s = some (strayPiece s)) :
    exec (.gauge l g title number raw) s = .next ((State.raise .stray s).answerSlot l ⟨0x23, .stray, none, []⟩) :=
  (exec_gauge_of_some hhears hslot hgood e).trans (congrArg Host.Outcome.next (State.afterFront_of_same rfl))

end

/-- Settles O29. -/
theorem gaugeTakesPieces : Obligations.GaugeTakesPieces := by
  unfold Obligations.GaugeTakesPieces
  refine ⟨fun s l raw hhears hslot hraw => ⟨fun title number hnone => ?_, fun title number v vs hfront => ?_,
    fun tag htitle hnumber => ⟨fun ahead v vs hout htag hahead => ?_, fun hout => ⟨fun v hmiss => ?_,
      fun hmiss => ⟨fun hunload => ?_, fun hunload => ?_⟩⟩⟩⟩,
    fun s v w p raw skipped returned hraw hw hunique hv hp => ?_, fun s n => ?_,
    fun s before => ⟨fun hnone hsome => ?_, fun hsame => ?_⟩⟩
  · exact exec_gauge_of_stray hhears hslot (goodGauge_untagged hraw ..) (evalGauge_untagged_of_none hnone raw false)
  · exact exec_gauge_of_some hhears hslot (goodGauge_untagged hraw ..) (evalGauge_untagged_of_front hfront raw false)
  · exact exec_gauge_of_some hhears hslot (goodGauge_tagged hraw htitle hnumber)
      (evalGauge_of_onOutfeed hout htag hahead raw false)
  · exact exec_gauge_of_some hhears hslot (goodGauge_tagged hraw htitle hnumber)
      (evalGauge_of_missing hout hmiss raw false)
  · obtain ⟨v, hv⟩ := State.exists_taggedIn hunload
    exact (exec_gauge hhears hslot (goodGauge_tagged hraw htitle hnumber)).trans (congrArg Host.Outcome.next
      (State.evaluate_of_none (evalGauge_of_unloading hout (State.taggedIn_eq_none hmiss) hv raw false)))
  · exact exec_gauge_of_stray hhears hslot (goodGauge_tagged hraw htitle hnumber)
      (evalGauge_of_stray hout (State.taggedIn_eq_none hmiss) (State.taggedIn_eq_none hunload) raw false)
  · intro failed gauged put isPassed others
    have hnum : v.number = w.number := by
      rw [hv]
    refine ⟨fun hfault => ?_, fun hfault => ?_⟩
    · rw [takeAtOutfeed_of_fault hp hfault, State.updVolume_of_unique hnum hunique]
      rfl
    · have hpassed (m : Nat) (hm : m ≠ v.number) : (((s.updVolume v.number
          (passedRecord raw p.wBook returned)).volume? m).map fun v => v.state.isPassed).getD false = isPassed m := by
        rw [passed_updVolume (f := passedRecord raw p.wBook returned) hm fun _ => rfl]
        dsimp only [isPassed]
        cases s.volume? m with
        | none => rfl
        | some u => exact isPassed_eq u.state
      rw [takeAtOutfeed_of_pass hp hfault, State.placePassed_eq v.number _ hpassed,
        State.updVolume_of_unique hnum hunique]
      cases returned <;> rfl
  · intro gone
    rw [State.goMissing_eq n gone rfl]
    by_cases h : ∃ v ∈ s.volumes, v.state = .missing
    · rw [if_pos h, State.anyMissing_iff.2 h]
      rfl
    · rw [if_neg h, Bool.eq_false_iff.2 (mt State.anyMissing_iff.1 h)]
      rfl
  · unfold State.afterFront
    rw [hnone]
    exact if_pos (Option.isSome_iff_ne_none.2 hsome)
  · unfold State.afterFront
    refine if_neg ?_
    obtain h | h := hsame
    · simp [h]
    · simp [h]

end Sys2Proof.Machine

/-! SUPPORT. The evaluation at the hold limit (R96, R110, R134, R143, R171), and the claim about it. -/

namespace Sys2Proof.Machine

variable {s t u : State} {l : Line} {v : Volume}

/-! ### Every evaluation at the hold limit answers -/

theorem isSome_evalCaseCall_last (s : State) : (evalCaseCall true s).isSome := by
  unfold evalCaseCall
  split
  · rfl
  · split
    · rfl
    · split
      · rfl
      · split
        · rfl
        · split
          · rfl
          · split <;> rfl

theorem isSome_evalNextMove_last (s : State) : (evalNextMove true s).isSome := by
  obtain ⟨-, h⟩ | ⟨e, -⟩ | ⟨t, b, -, e⟩ | ⟨v, b, -, e⟩ := evalNextMove_cases s true
  · cases h
  all_goals
    rw [e]
    rfl

theorem isSome_evalGauge_last (tag : Option Tag) (raw : Nat) (s : State) : (evalGauge tag raw true s).isSome := by
  unfold evalGauge
  split
  · split <;> rfl
  · split
    · rfl
    · split
      · rfl
      · split <;> rfl

theorem isSome_evalFoldCall_last (s : State) : (evalFoldCall true s).isSome := by
  unfold evalFoldCall
  split
  · rfl
  · split
    · rfl
    · split
      · rfl
      · split
        · rfl
        · split <;> rfl

/-- R171: no query stays held at its hold limit. -/
theorem exists_evalQuery_last (q : Query) (s : State) : ∃ t a, evalQuery q true s = some (t, a) := by
  have h : (evalQuery q true s).isSome := by
    cases q with
    | caseCall => exact isSome_evalCaseCall_last s
    | nextMove => exact isSome_evalNextMove_last s
    | gauge tag raw => exact isSome_evalGauge_last tag raw s
    | foldCall => exact isSome_evalFoldCall_last s
  obtain ⟨⟨t, a⟩, e⟩ := Option.isSome_iff_exists.1 h
  exact ⟨t, a, e⟩

/-! ### An evaluation leaves the clock and the lines -/

/-- What an evaluation leaves to the line interface. -/
structure State.SameLines (s t : State) : Prop where
  clock : t.clock = s.clock
  stations : t.stations = s.stations

theorem State.SameLines.refl (s : State) : s.SameLines s := ⟨rfl, rfl⟩

theorem State.SameLines.trans (h : s.SameLines t) (g : t.SameLines u) : s.SameLines u :=
  ⟨g.clock.trans h.clock, g.stations.trans h.stations⟩

theorem sameLines_evalCaseCall {last : Bool} {a : Answer} (h : evalCaseCall last s = some (t, a)) : s.SameLines t := by
  obtain e | ⟨n, e⟩ | ⟨v, -, ⟨r, e⟩ | ⟨r, e⟩ | ⟨-, k, w, -, e⟩⟩ := evalCaseCall_cases s last <;> rw [e] at h
  · cases h
  · rw [eq_fst_of_some h]
    exact .refl s
  · rw [eq_fst_of_some h]
    exact ⟨State.removeVolume_clock .., State.removeVolume_stations ..⟩
  · rw [eq_fst_of_some h]
    unfold caseWaitCounted
    split
    · exact ⟨rfl, rfl⟩
    · exact ⟨State.removeVolume_clock .., State.removeVolume_stations ..⟩
  · rw [eq_fst_of_some h]
    exact ⟨rfl, rfl⟩

theorem sameLines_evalNextMove {last : Bool} {a : Answer} (h : evalNextMove last s = some (t, a)) : s.SameLines t := by
  obtain ⟨e, -⟩ | ⟨e, -⟩ | ⟨u, b, -, e⟩ | ⟨v, b, -, e⟩ := evalNextMove_cases s last <;> rw [e] at h
  · cases h
  · rw [eq_fst_of_some h]
    exact .refl s
  · rw [eq_fst_of_some h]
    unfold unloadBay
    split <;> exact ⟨rfl, rfl⟩
  · rw [eq_fst_of_some h]
    exact ⟨State.repace_clock .., State.repace_stations ..⟩

theorem sameLines_skipToMissing (ahead : List Volume) : s.SameLines (skipToMissing ahead s) := by
  unfold skipToMissing
  induction ahead generalizing s with
  | nil => exact .refl s
  | cons v ahead ih =>
    exact State.SameLines.trans ⟨State.goMissing_clock .., State.goMissing_stations ..⟩ (ih (s := s.goMissing v.number))

theorem sameLines_takeAtOutfeed (v : Volume) (raw skipped : Nat) (returned : Bool) :
    s.SameLines (takeAtOutfeed v raw skipped returned s).1 := by
  unfold takeAtOutfeed
  dsimp only
  split
  · exact ⟨State.removeVolume_clock .., State.removeVolume_stations ..⟩
  · exact ⟨rfl, rfl⟩

theorem sameLines_evalGauge {tag : Option Tag} {raw : Nat} {last : Bool} {a : Answer}
    (h : evalGauge tag raw last s = some (t, a)) : s.SameLines t := by
  obtain e | e | e | ⟨v, vs, -, e⟩ | ⟨u, ahead, v, vs, -, -, e⟩ | ⟨u, v, -, -, e⟩ := evalGauge_cases s tag raw last <;>
    rw [e] at h
  · cases h
  · rw [eq_fst_of_some h]
    exact .refl s
  · rw [eq_fst_of_some h]
    exact ⟨rfl, rfl⟩
  · rw [eq_fst_of_some h]
    refine State.SameLines.trans (t := s.updVolume v.number fun u => { u with unverified := true }) ⟨rfl, rfl⟩
      (sameLines_takeAtOutfeed ..)
  · rw [eq_fst_of_some h]
    exact (sameLines_skipToMissing ahead).trans (sameLines_takeAtOutfeed ..)
  · rw [eq_fst_of_some h]
    exact sameLines_takeAtOutfeed ..

theorem sameLines_evalFoldCall {last : Bool} {a : Answer} (h : evalFoldCall last s = some (t, a)) : s.SameLines t := by
  obtain e | ⟨n, e⟩ | ⟨v, -, e | ⟨u, j, k, w, -, e⟩ | e | e⟩ := evalFoldCall_cases s last <;> rw [e] at h
  · cases h
  · rw [eq_fst_of_some h]
    exact .refl s
  · rw [eq_fst_of_some h]
    exact ⟨rfl, rfl⟩
  · rw [eq_fst_of_some h]
    unfold foldAt
    split
    · exact ⟨rfl, rfl⟩
    · split <;> exact ⟨rfl, rfl⟩
  · rw [eq_fst_of_some h]
    unfold foldWaitCounted
    split <;> exact ⟨rfl, rfl⟩
  · rw [eq_fst_of_some h]
    exact ⟨rfl, rfl⟩

theorem sameLines_evalQuery {q : Query} {last : Bool} {a : Answer} (h : evalQuery q last s = some (t, a)) :
    s.SameLines t := by
  cases q with
  | caseCall => exact sameLines_evalCaseCall h
  | nextMove => exact sameLines_evalNextMove h
  | gauge => exact sameLines_evalGauge h
  | foldCall => exact sameLines_evalFoldCall h

/-! ### A query answered leaves its line alone afterwards -/

theorem State.station_congr (h : t.stations = s.stations) (l : Line) : t.station l = s.station l := by
  rw [State.station, h]
  rfl

theorem State.length_of_slot (h : (s.station l).slot ≠ .empty) : l.val < s.stations.length := by
  by_contra hlen
  refine h ?_
  rw [State.station, List.getD_eq_getElem?_getD, List.getElem?_eq_none (Nat.not_lt.1 hlen)]
  rfl

/-- R170: a line whose slot holds no query is left alone where a held query is evaluated again. -/
theorem State.reevaluate_station (kind : Query → Bool) (h : (s.station l).slot = .answered) :
    (s.reevaluate kind).clock = s.clock ∧ (s.reevaluate kind).station l = s.station l := by
  obtain ⟨-, e⟩ | ⟨m, q, hm, e⟩ := s.reevaluate_cases kind
  · rw [e]
    exact ⟨rfl, rfl⟩
  · have hslot := State.slot_of_heldQuery hm
    have hne : l ≠ m := fun hl => by rw [hl, hslot] at h; cases h
    rw [e]
    obtain ⟨-, e'⟩ | ⟨t, a, ht, e'⟩ := s.settle_cases m q (evalQuery q.query false s)
    · rw [e', State.setSlot_of_same hslot]
      exact ⟨rfl, rfl⟩
    · obtain ⟨hclock, hstations⟩ := sameLines_evalQuery ht
      have hlen : m.val < t.stations.length := by
        rw [hstations]
        exact State.length_of_slot (by simp [hslot])
      rw [e', State.answerSlot_eq, State.updStation_station hlen, if_neg hne]
      exact ⟨hclock, State.station_congr hstations l⟩

/-- R171: at its hold limit a held query is answered in its slot. -/
theorem State.evaluate_last {h : HeldQuery} (hslot : (s.station l).slot = .held h) :
    (s.evaluate l h true).clock = s.clock
      ∧ ∃ a, (s.evaluate l h true).station l = ⟨.answered, (s.station l).output ++ [⟨a, true⟩], (s.station l).driven⟩ := by
  obtain ⟨t, a, e⟩ := exists_evalQuery_last h.query s
  obtain ⟨hclock, hstations⟩ := sameLines_evalQuery e
  have hlen : l.val < t.stations.length := by
    rw [hstations]
    exact State.length_of_slot (by simp [hslot])
  have hline : (t.answerSlot l a).station l
      = ⟨.answered, (s.station l).output ++ [⟨a, true⟩], (s.station l).driven⟩ := by
    rw [State.answerSlot_eq, State.updStation_station hlen, if_pos rfl, State.station_congr hstations]
  rw [State.evaluate_of_some e]
  obtain e' | e' := (t.answerSlot l a).afterFront_cases s <;> rw [e']
  · exact ⟨hclock, a, hline⟩
  · obtain ⟨hc, hl⟩ := State.reevaluate_station (s := t.answerSlot l a) (l := l) Query.isFoldCall (by rw [hline])
    exact ⟨hc.trans hclock, a, hl.trans hline⟩

/-! ### R171, by the state of the slot -/

theorem exec_holdLimitExpiry_of_held {h : HeldQuery} (hslot : (s.station l).slot = .held h) :
    exec (.holdLimitExpiry l) s = .next ((s.clockReaches (h.arrival + h.limit)).evaluate l h true) := by
  change execHoldLimitExpiry l s = _
  unfold execHoldLimitExpiry
  rw [hslot]

theorem exec_holdLimitExpiry_of_behind {h : HeldQuery} {n : Nat} (hslot : (s.station l).slot = .behind h n) :
    exec (.holdLimitExpiry l) s
      = .next ((s.clockReaches (h.arrival + h.limit)).answerSlot l (bareWaitAnswer h.query)) := by
  change execHoldLimitExpiry l s = _
  unfold execHoldLimitExpiry
  rw [hslot]

theorem exec_holdLimitExpiry_of_idle (hslot : (s.station l).slot = .empty ∨ (s.station l).slot = .answered) :
    exec (.holdLimitExpiry l) s = .next s := by
  change execHoldLimitExpiry l s = _
  unfold execHoldLimitExpiry
  obtain hslot | hslot := hslot <;> rw [hslot]

/-- R171: the answer of a held query at its hold limit, where it gives the jacketer no front. -/
theorem exec_holdLimitExpiry_of_answer {h : HeldQuery} (hslot : (s.station l).slot = .held h) {a : Answer}
    (e : evalQuery h.query true (s.clockReaches (h.arrival + h.limit)) = some (t, a))
    (hfront : (s.clockReaches (h.arrival + h.limit)).NoNewFront t) :
    exec (.holdLimitExpiry l) s = .next (t.answerSlot l a) :=
  (exec_holdLimitExpiry_of_held hslot).trans (congrArg Host.Outcome.next (State.evaluate_of_answer e hfront))

theorem State.NoNewFront.refl (s : State) : s.NoNewFront s := fun h => h

/-! ### Counted waits (R96, R143) -/

theorem caseWaitCounted_of_below (h : v.caseWaits + 1 < s.profile.waitLimit) (r : Reason) : caseWaitCounted v r s
    = (s.updVolume v.number fun u => { u with caseWaits := u.caseWaits + 1 }, caseWaitAnswer (some v.number)) :=
  if_pos h

theorem caseWaitCounted_of_limit (h : s.profile.waitLimit ≤ v.caseWaits + 1) (r : Reason) :
    caseWaitCounted v r s = divertAtCaser v r s :=
  if_neg (Nat.not_lt.2 h)

theorem foldWaitCounted_of_below (h : v.jacketWaits + 1 < s.profile.waitLimit) : foldWaitCounted v s
    = (s.updVolume v.number fun u => { u with jacketWaits := u.jacketWaits + 1 }, foldWaitAnswer (some v.number)) :=
  if_pos h

theorem foldWaitCounted_of_limit (h : s.profile.waitLimit ≤ v.jacketWaits + 1) :
    foldWaitCounted v s = bareDelivery v 0 .noJacket s.jacketWindow s :=
  if_neg (Nat.not_lt.2 h)

/-- R96, R143: a wait count gives the jacketer no front. -/
theorem noNewFront_caseWaits (n : Nat) :
    s.NoNewFront (s.updVolume n fun u => { u with caseWaits := u.caseWaits + 1 }) :=
  State.noNewFront_updVolume n (fun _ => rfl) fun _ h => h

theorem noNewFront_jacketWaits (n : Nat) :
    s.NoNewFront (s.updVolume n fun u => { u with jacketWaits := u.jacketWaits + 1 }) :=
  State.noNewFront_updVolume n (fun _ => rfl) fun _ h => h

/-- R89: a front that waits for its title or its case. -/
theorem evalCaseCall_counts (h : s.caserFront = some v) (hpace : ¬ s.Halted) (hm : v.bound.bind BindPart.mark = none)
    {r : Reason} (hwaits : v.state = .awaitTitle ∧ r = .noTitle
      ∨ v.state = .awaitCase ∧ s.caseMatchFor v = none ∧ s.caseWindow.length < 8 ∧ r = .noCase) :
    evalCaseCall true s = some (caseWaitCounted v r s) := by
  obtain ⟨hst, rfl⟩ | ⟨hst, hmatch, hroom, rfl⟩ := hwaits
  · exact evalCaseCall_of_awaitTitle h hpace hm hst true
  · exact evalCaseCall_of_room h hpace hm (by simp [hst]) hmatch hroom true

/-- Settles O31. -/
theorem holdLimitAnswersQuery : Obligations.HoldLimitAnswersQuery := by
  unfold Obligations.HoldLimitAnswersQuery
  refine ⟨fun s l => ⟨fun h n hslot => ?_, fun h hslot => ⟨_, exec_holdLimitExpiry_of_held hslot,
    State.evaluate_last (s := s.clockReaches (h.arrival + h.limit)) hslot⟩, exec_holdLimitExpiry_of_idle⟩,
    fun s l h hslot => ?_⟩
  · refine (exec_holdLimitExpiry_of_behind hslot).trans ?_
    cases h.query <;> rfl
  · intro t
    have hanswer {u : State} {a : Answer} (e : evalQuery h.query true t = some (u, a)) (hfront : t.NoNewFront u) :
        exec (.holdLimitExpiry l) s = .next (u.answerSlot l a) := exec_holdLimitExpiry_of_answer hslot e hfront
    refine ⟨fun hq hu hl => hanswer ?_ (.refl t), fun tag raw hq hnone hsome => hanswer ?_ (.refl t),
      fun hq hfront => hanswer ?_ (.refl t), fun hq hfront => hanswer ?_ (.refl t),
      fun v hq hfront => ⟨fun hpace => hanswer ?_ (.refl t), fun r hpace hm hwaits => ?_⟩,
      fun v hq hfront => ⟨fun hstop => hanswer ?_ (.refl t), fun tt j hpace hjacket hmatch hroom => ?_⟩⟩
    · rw [hq]
      exact evalNextMove_none (s := t) hu hl true
    · obtain ⟨v, hv⟩ := State.exists_taggedIn hsome
      rw [hq]
      refine evalGauge_of_unloading (s := t) (fun u hu => ?_)
        (State.taggedIn_eq_none fun u hu hst => hnone u hu (.inr hst)) hv raw true
      obtain ⟨-, hmem, hst⟩ := State.onOutfeed_mem hu
      exact hnone u hmem (.inl hst)
    · rw [hq]
      exact evalCaseCall_of_noFront (s := t) hfront true
    · rw [hq]
      exact evalFoldCall_of_noFront (s := t) hfront true
    · rw [hq]
      exact evalCaseCall_of_halted (s := t) hfront hpace true
    · have e : evalQuery h.query true t = some (caseWaitCounted v r t) := by
        rw [hq]
        exact evalCaseCall_counts (s := t) hfront hpace hm hwaits
      refine ⟨fun hbelow => hanswer (e.trans (congrArg some (caseWaitCounted_of_below (s := t) hbelow r)))
        (noNewFront_caseWaits v.number), fun hlimit => hanswer (e.trans (congrArg some (caseWaitCounted_of_limit (s := t) hlimit r)))
        (noNewFront_divertAtCaser v r t)⟩
    · rw [hq]
      exact evalFoldCall_of_stop (s := t) hfront hstop true
    · have e : evalQuery h.query true t = some (foldWaitCounted v t) := by
        rw [hq]
        exact evalFoldCall_of_room (s := t) hfront hpace hjacket hmatch hroom true
      exact ⟨fun hbelow => hanswer (e.trans (congrArg some (foldWaitCounted_of_below (s := t) hbelow)))
        (noNewFront_jacketWaits v.number), fun hlimit => hanswer (e.trans (congrArg some (foldWaitCounted_of_limit (s := t) hlimit)))
        (noNewFront_giveFinish v.number (.bare .noJacket) t.jacketWindow)⟩

end Sys2Proof.Machine

/-! SUPPORT. ENTRY answered ADMIT, for a resident and for an absent title (R37, R48, R52, R53, R55), and the claim
about it. -/

namespace Sys2Proof.Machine

variable {s : State} {l : Line} {serial raw n i : Nat} {e : RangeEntry}

/-! ### The free slot and the caser's front -/

/-- R37: the lowest number that no record has. -/
theorem State.freeVolumeSlot_of_lowest (hn : n < 64) (hfree : ∀ v ∈ s.volumes, v.number ≠ n)
    (hlow : ∀ m < n, ∃ v ∈ s.volumes, v.number = m) : s.freeVolumeSlot = some n := by
  refine List.find?_range_eq_some.2 ⟨by simpa using hfree, List.mem_range.2 hn, fun m hm => ?_⟩
  obtain ⟨v, hv, hvm⟩ := hlow m hm
  simp only [Bool.not_eq_true', List.all_eq_false]
  exact ⟨v, hv, by simp [hvm]⟩

/-- R97: a block admitted is a front of the caser, so a CASE_CALL is evaluated again where there was none. -/
theorem State.afterAdmission_of_joined {t : State} {w : Volume} (ht : t.volumes = s.volumes ++ [w])
    (hst : w.state = .awaitTitle ∨ w.state = .awaitCase) :
    t.afterAdmission s = if s.caserFront = none then t.reevaluate Query.isCaseCall else t := by
  have hsome : t.caserFront.isSome = true := by
    refine List.find?_isSome.2 ⟨w, by simp [ht], ?_⟩
    obtain h | h := hst <;> simp [h]
  unfold State.afterAdmission
  rw [hsome, Bool.and_true]
  cases s.caserFront <;> rfl

/-! ### The bind part of an admitted block -/

/-- R56: a press thickness is covered, bay by bay. -/
theorem jawCovered_eq_any {p : Profile} {w : Nat} {f : Option JawGroup → Bool} (hnone : f none = false)
    (hsome : ∀ g, f (some g) = groupHolds p g w) : jawCovered p w = p.assignment.any f := by
  unfold jawCovered
  refine congrArg p.assignment.any (funext fun a => ?_)
  cases a with
  | none => exact hnone.symm
  | some g => exact (hsome g).symm

/-- R55: the record of a volume at its bind, field by field. -/
theorem bindVolume_eq (p : Profile) (t : Title) (w : Volume) {mark : Option DivertMark}
    (hmark : (bindPart p t w.raw).mark = mark) : bindVolume p t w = { w with
      state := .awaitCase, ungauged := failedReading w.raw
      bound := some ⟨thickness w.raw t.tNom, fitClass t.band (thickness w.raw t.tNom) t.tNom,
        thickness w.raw t.tNom + 2 * t.board, mark⟩ } := by
  rw [← hmark]
  rfl

/-! ### What an admission changes -/

theorem State.handAdmit_eq (s : State) : s.handAdmit = { s with
    governor := if s.governor.requested = .run then { s.governor with
      stepDown := .run, idleDue := some (s.clock + s.profile.idle1 * 1000) } else s.governor } := by
  unfold State.handAdmit
  split <;> rfl

/-- R21, R53: the code joins the miss list, and the governor takes the ADMIT. -/
theorem State.handAdmit_appendMiss (code : Nat) (s grown : State) (hgrown : grown = { s with
      missList := if code ∈ s.missList then s.missList else s.missList ++ [code]
      governor := if s.governor.requested = .run then { s.governor with
        stepDown := .run, idleDue := some (s.clock + s.profile.idle1 * 1000) } else s.governor }) :
    (s.appendMiss code).handAdmit = if s.missList = [] then State.raise .titleMiss grown else grown := by
  subst hgrown
  rw [State.handAdmit_eq]
  unfold State.appendMiss State.levelRises
  by_cases hnil : s.missList = []
  · simp only [hnil, List.contains_nil, Bool.false_eq_true, if_false, if_true, List.isEmpty_nil, Bool.not_true,
      List.not_mem_nil]
    rfl
  · by_cases hcode : code ∈ s.missList <;> simp [hnil, hcode]

/-- R52: ENTRY of a block of a resident title that is not RETIRING. -/
theorem exec_entry_of_resident (h : s.Hears l .entry) (hslot : (s.station l).slot = .empty) (hraw : raw ≤ 2047)
    (hpace : ¬ s.Halted) (hroom : s.volumes.length < 64) (hserial : ∀ v ∈ s.volumes, v.serial ≠ serial)
    (hrange : s.rangeFor serial = some (e, i)) {t : Title} (ht : s.title? e.code = some t) (hlive : t.retiring = false)
    (hn : s.freeVolumeSlot = some n) : exec (.entry l serial raw) s
      = .next (((admitBlock n serial raw e.code (unitNumber e serial) s).answerSlot l (admitAnswer n)).afterAdmission s) := by
  rw [exec_entry h hslot serial hraw, evalEntry_of_resident hpace hroom hserial hrange hn ht, hlive]
  rfl

/-- R53: ENTRY of a block of an absent title that the miss list has, or has room for. -/
theorem exec_entry_of_absent (h : s.Hears l .entry) (hslot : (s.station l).slot = .empty) (hraw : raw ≤ 2047)
    (hpace : ¬ s.Halted) (hroom : s.volumes.length < 64) (hserial : ∀ v ∈ s.volumes, v.serial ≠ serial)
    (hrange : s.rangeFor serial = some (e, i)) (ht : s.title? e.code = none)
    (hmiss : e.code ∈ s.missList ∨ s.missList.length < 8)
    (hn : s.freeVolumeSlot = some n) : exec (.entry l serial raw) s
      = .next (((admitBlock n serial raw e.code (unitNumber e serial) s).answerSlot l (admitAnswer n)).afterAdmission s) := by
  have htaken : ¬ (8 ≤ s.missList.length ∧ e.code ∉ s.missList) := by
    rw [not_and_not_right]
    exact fun hfull => hmiss.resolve_right (Nat.not_lt.2 hfull)
  rw [exec_entry h hslot serial hraw, evalEntry_of_absent hpace hroom hserial hrange hn ht, if_neg htaken]

/-- Settles O25. -/
theorem entryAdmitsBlocks : Obligations.EntryAdmitsBlocks := by
  unfold Obligations.EntryAdmitsBlocks
  intro record
  refine ⟨fun s l serial raw n i e t h hslot hraw hpace hroom hserial hrange ht hlive hn hfree hlow => ?_,
    fun s l serial raw n i e h hslot hraw hpace hroom hserial hrange ht hmiss hn hfree hlow => ?_⟩
  · intro failed tBlk cls wBook v counted u
    have hv : bindVolume s.profile t (newVolume n serial e.code (unitNumber e serial) raw) = v :=
      bindVolume_eq s.profile t _ (congrArg (fun covered : Bool => if cls = .reject then some DivertMark.misfit
        else if covered then none else some .noJaw) (jawCovered_eq_any rfl fun g => rfl))
    have hadmit : (admitBlock n serial raw e.code (unitNumber e serial) s).answerSlot l (admitAnswer n) = u := by
      rw [admitBlock_of_resident serial raw _ hfree ht, hv, State.handAdmit_eq, filter_bne_eq Title.code]
      rfl
    rw [exec_entry_of_resident h hslot hraw hpace hroom hserial hrange ht hlive
      (State.freeVolumeSlot_of_lowest hn hfree hlow), hadmit]
    refine congrArg Host.Outcome.next (State.afterAdmission_of_joined (w := v) ?_ (.inr rfl))
    exact State.repace_volumes _
  · intro grown u
    have hadmit : (admitBlock n serial raw e.code (unitNumber e serial) s).answerSlot l (admitAnswer n) = u := by
      rw [admitBlock_of_absent serial raw _ ht, State.handAdmit_appendMiss e.code _ grown rfl]
      rfl
    rw [exec_entry_of_absent h hslot hraw hpace hroom hserial hrange ht hmiss
      (State.freeVolumeSlot_of_lowest hn hfree hlow), hadmit]
    refine congrArg Host.Outcome.next (State.afterAdmission_of_joined
      (w := newVolume n serial e.code (unitNumber e serial) raw) ?_ (.inl rfl))
    refine (State.repace_volumes _).trans ?_
    split <;> rfl

end Sys2Proof.Machine

/-! SUPPORT. What a removal counts, and what it leaves of the titles and of the miss list (R15, R19 to R21, R58), and
the claim about it. -/

namespace Sys2Proof.Machine

variable {s : State} {k : Removal} {v : Volume} {code n : Nat}

/-! ### The removal by its three cases (R58) -/

theorem State.dropVolume_eq (n : Nat) : s.dropVolume n = { s with
    volumes := s.volumes.filter fun w => w.number ≠ n, postPress := s.postPress.filter fun m => m ≠ n } := by
  rw [← filter_bne_eq Volume.number]
  exact congrArg (fun l => { s with volumes := s.volumes.filter fun w => w.number != n, postPress := l })
    (filter_bne_eq id n s.postPress)

theorem State.removeVolume_of_bound (hv : s.volume? n = some v) (hbound : v.bound.isSome = true) (k : Removal) :
    s.removeVolume k v = ((s.dropVolume n).countRemoval k v.title).repace := by
  unfold State.removeVolume
  rw [(State.mem_of_volume? hv).2]
  exact congrArg State.repace (if_pos hbound)

theorem State.removeVolume_of_unbound (hv : s.volume? n = some v) (hbound : v.bound.isSome = false) (k : Removal) :
    s.removeVolume k v = ((s.dropVolume n).settleMiss v.title).repace := by
  unfold State.removeVolume
  rw [(State.mem_of_volume? hv).2]
  exact congrArg State.repace (if_neg (by simp [hbound]))

/-! ### The title's counters (R19, R20) -/

theorem reachesQuota_iff (k : Removal) (t : Title) : reachesQuota k t = true ↔ (k = .outJacketed ∨ k = .outBare)
    ∧ 0 < t.quota ∧ t.quotaReached = false ∧ t.quota ≤ t.outJacketed + t.outBare + 1 := by
  have hkind : k.isDelivery = true ↔ k = .outJacketed ∨ k = .outBare := by cases k <;> simp [Removal.isDelivery]
  simp [reachesQuota, hkind, and_assoc]

/-- R15: the records of the other titles, whatever was counted at one of them. -/
theorem filter_updTitle {f : Title → Title} (hf : ∀ t, (f t).code = t.code) (l : List Title) :
    ((l.map fun t => if t.code = code then f t else t).filter fun t => t.code ≠ code)
      = l.filter fun t => t.code ≠ code := by
  induction l with
  | nil => rfl
  | cons t l ih =>
    rw [List.map_cons, List.filter_cons, List.filter_cons, ih]
    by_cases h : t.code = code
    · simp [h, hf]
    · simp [h]

theorem State.removeTitle_counted (k : Removal) (t : Title) (code : Nat) : (s.counted k t code).removeTitle code
    = { s.counted k t code with titles := s.titles.filter fun u => u.code ≠ code } := by
  have htitles : ((s.counted k t code).titles.filter fun u => u.code ≠ code) = s.titles.filter fun u => u.code ≠ code := by
    unfold State.counted
    split
    · exact filter_updTitle (f := fun u => { countOut k u with quotaReached := true })
        (fun u => (countOut_fields k u).1) s.titles
    · exact filter_updTitle (fun u => (countOut_fields k u).1) s.titles
  rw [← htitles, ← filter_bne_eq Title.code]
  rfl

/-! ### The miss list (R21) -/

theorem State.settleMiss_eq (code : Nat) : s.settleMiss code
    = { s with missList := if ∃ w ∈ s.volumes, w.state = .awaitTitle ∧ w.title = code then s.missList
        else s.missList.filter fun c => c ≠ code } := by
  have hwaiting : (s.waitingFor code).isEmpty = true ↔ ¬ ∃ w ∈ s.volumes, w.state = .awaitTitle ∧ w.title = code := by
    simp [State.waitingFor]
  unfold State.settleMiss
  by_cases h : ∃ w ∈ s.volumes, w.state = .awaitTitle ∧ w.title = code
  · rw [if_neg (mt hwaiting.1 (not_not.2 h)), if_pos h]
  · rw [if_pos (hwaiting.2 h), if_neg h]
    exact congrArg (fun l => { s with missList := l }) (filter_bne_eq id code s.missList)

/-- Settles O23. -/
theorem removalIsCounted : Obligations.RemovalIsCounted := by
  unfold Obligations.RemovalIsCounted
  intro s kind n v hv gone
  have hgone : s.dropVolume n = gone := State.dropVolume_eq n
  refine ⟨fun tt hbound ht => ?_, fun hbound ht => ?_, fun hbound => ?_⟩
  · intro up reached counted told
    have htold : told = gone.counted kind tt v.title := by
      have hiff := reachesQuota_iff kind tt
      unfold State.counted
      by_cases hreached : reached
      · rw [if_pos (hiff.2 hreached)]
        refine (if_pos hreached).trans (congrArg (State.raise .quota) (congrArg (fun ts => { gone with titles := ts })
          (List.map_congr_left fun t _ => ?_)))
        rw [if_pos hreached]
        cases kind <;> rfl
      · rw [if_neg (mt hiff.1 hreached)]
        refine (if_neg hreached).trans (congrArg (fun ts => { gone with titles := ts })
          (List.map_congr_left fun t _ => ?_))
        rw [if_neg hreached]
        cases kind <;> rfl
    rw [State.removeVolume_of_bound hv hbound, hgone, htold]
    obtain ⟨hnone, -⟩ | ⟨t, ht', ⟨hlast, e⟩ | ⟨hlast, e⟩⟩ := gone.countRemoval_cases kind v.title
    · exact absurd (hnone.symm.trans ht) (by simp)
    all_goals
      obtain rfl : t = tt := Option.some.inj (ht'.symm.trans ht)
      rw [e]
    · rw [if_neg (by simpa using hlast)]
    · rw [if_pos (by simpa using hlast), State.removeTitle_counted]
  · rw [State.removeVolume_of_bound hv hbound, hgone]
    obtain ⟨-, e⟩ | ⟨t, ht', -⟩ := gone.countRemoval_cases kind v.title
    · rw [e]
    · exact absurd (ht.symm.trans ht') (by simp)
  · rw [State.removeVolume_of_unbound hv hbound, hgone, State.settleMiss_eq]
    have hwait : (∃ w ∈ gone.volumes, w.state = .awaitTitle ∧ w.title = v.title)
        ↔ ∃ w ∈ s.volumes, w.number ≠ n ∧ w.state = .awaitTitle ∧ w.title = v.title := by
      simp [gone, and_assoc]
    exact congrArg (fun l => State.repace { gone with missList := l }) (if_congr hwait rfl rfl)

end Sys2Proof.Machine

/-! SUPPORT. The groups a title request stores (R7 to R12), and the claim about TITLE_AMEND. -/

namespace Sys2Proof.Machine

variable {s : State} {code : Nat}

/-! ### The groups as stored -/

theorem marryOfByte_getD (m : Nat) : (marryOfByte m).getD .run = if m = 1 then .unit else .run := by
  match m with
  | 0 | 1 => rfl
  | m + 2 => rfl

theorem bandOfByte_eq (b : Nat) : bandOfByte b = if b = 0 then .tight else if b = 2 then .openBand else .standard := by
  match b with
  | 0 | 1 | 2 => rfl
  | b + 3 => rfl

theorem storeGeometry_eq (g : GeometryGroup) (t : Title) : storeGeometry g t = { t with
    marry := if g.marry = 1 then .unit else .run, tNom := g.tNom, board := g.board, jacket := g.jacket } := by
  rw [← marryOfByte_getD]
  rfl

theorem storeProcess_eq (p : ProcessGroup) (t : Title) : storeProcess p t = { t with
    band := if p.band = 0 then .tight else if p.band = 2 then .openBand else .standard
    dwellBase := min p.dwellBase 600, dwellSlope := min p.dwellSlope 50, quota := p.quota } := by
  rw [← bandOfByte_eq]
  rfl

/-- R8: a process value is clamped. -/
theorem processClamped_iff (p : ProcessGroup) :
    processClamped p = true ↔ 600 < p.dwellBase ∨ 50 < p.dwellSlope ∨ 2 < p.band := by
  simp [processClamped, or_assoc]

/-- R7 steps 4 and 5, R12: the geometry group is refused. -/
theorem geometryAcceptable_eq_false_iff (g : GeometryGroup) :
    geometryAcceptable g = false ↔ geometryInRange g = false ∨ nominalPlanPasses g = false :=
  Bool.and_eq_false_iff

theorem clampedCode_spec (p : Option ProcessGroup) :
    ((∃ q, p = some q ∧ (600 < q.dwellBase ∨ 50 < q.dwellSlope ∨ 2 < q.band)) → clampedCode p = .okClamped)
      ∧ (¬ (∃ q, p = some q ∧ (600 < q.dwellBase ∨ 50 < q.dwellSlope ∨ 2 < q.band)) → clampedCode p = .ok) := by
  cases p with
  | none => exact ⟨fun ⟨q, hq, _⟩ => (nomatch hq), fun _ => rfl⟩
  | some q =>
    refine ⟨fun ⟨q', hq, hclamped⟩ => ?_, fun hfree => if_neg fun h => hfree ⟨q, rfl, (processClamped_iff q).1 h⟩⟩
    cases hq
    exact if_pos ((processClamped_iff q).2 hclamped)

/-! ### TITLE_AMEND (R12) -/

/-- R1: a code names one title. -/
theorem State.filter_code_eq {t : Title} (hnodup : (s.titles.map Title.code).Nodup) (ht : s.title? code = some t) :
    (s.titles.filter fun u => u.code == code) = [t] := by
  have hmem := List.mem_of_find?_eq_some ht
  have hcode : t.code = code := by simpa using List.find?_some ht
  unfold State.title? at ht
  generalize s.titles = ts at *
  induction ts with
  | nil => cases ht
  | cons u ts ih =>
    rw [List.map_cons, List.nodup_cons] at hnodup
    obtain ⟨hfresh, hrest⟩ := hnodup
    by_cases hu : u.code = code
    · obtain rfl : u = t := by simpa [hu] using ht
      have hother : (ts.filter fun w => w.code == code) = [] := List.filter_eq_nil_iff.2 fun w hw hwc =>
        hfresh (by rw [hu, ← (beq_iff_eq.1 hwc)]; exact List.mem_map_of_mem hw)
      rw [List.filter_cons_of_pos (by simpa using hu), hother]
    · rw [List.filter_cons_of_neg (by simpa using hu)]
      rw [List.find?_cons_of_neg (by simpa using hu)] at ht
      exact ih hrest ht (List.mem_of_find?_eq_some ht)

theorem amendTitle_code (p : Option ProcessGroup) (g : Option GeometryGroup) (t : Title) :
    (amendTitle p g t).code = t.code := by
  cases p <;> cases g <;> rfl

theorem exec_titleAmend {p : Option ProcessGroup} {g : Option GeometryGroup} (h : s.Awaiting)
    (hgroups : p.isSome = true ∨ g.isSome = true) {t : Title} (hcode : code ≠ 0) (ht : s.title? code = some t)
    {u : State} {a : Answer}
    (hamend : (if g.isSome && 0 < t.volumeCount then (s.taken, refuse .titleAmend .inUse)
      else if !(g.map geometryAcceptable).getD true then (s.taken, refuse .titleAmend .badValue)
      else ((s.taken.updTitle code (amendTitle p g)).touchTitle code, ⟨kindByte .titleAmend, clampedCode p, none, []⟩))
        = (u.taken, a)) :
    exec (.titleAmend code p g) s = .next (State.answered a u) := by
  refine congrArg Host.Outcome.next (State.request_of_taken u h ?_)
  unfold amendRequest
  rw [if_neg (by cases p <;> cases g <;> simp_all)]
  exact (onTitle_of_resident _ hcode ht).trans hamend

theorem exec_titleAmend_absent {p : Option ProcessGroup} {g : Option GeometryGroup} (h : s.Awaiting)
    (hgroups : p.isSome = true ∨ g.isSome = true) (hnone : ∀ t ∈ s.titles, t.code ≠ code ∨ code = 0) :
    exec (.titleAmend code p g) s
      = .next (State.answered (refuse .titleAmend (if code = 0 then .badValue else .notFound)) s) := by
  refine congrArg Host.Outcome.next (State.request_of_taken s h ?_)
  unfold amendRequest
  rw [if_neg (by cases p <;> cases g <;> simp_all)]
  by_cases hcode : code = 0
  · unfold onTitle
    rw [if_pos hcode, if_pos hcode]
  · exact onTitle_of_absent _ fun t ht => (hnone t ht).resolve_right hcode

/-- Settles O36. -/
theorem titleAmendStoresGroups : Obligations.TitleAmendStoresGroups := by
  unfold Obligations.TitleAmendStoresGroups
  intro s code p g h hgroups
  refine ⟨fun hcode => ?_, fun hcode hnone => ?_, fun t hcode ht => ⟨fun hg hcount => ?_, fun gg hg hcount hbad => ?_,
    fun hnodup hgood => ?_⟩⟩
  · refine (exec_titleAmend_absent h hgroups fun _ _ => .inr hcode).trans ?_
    rw [if_pos hcode]
    rfl
  · refine (exec_titleAmend_absent h hgroups fun t ht => .inl (hnone t ht)).trans ?_
    rw [if_neg hcode]
    rfl
  · exact exec_titleAmend h hgroups hcode ht (if_pos (by simp [hg, hcount]))
  · refine exec_titleAmend h hgroups hcode ht ((if_neg (by simp [hcount])).trans (if_pos ?_))
    subst hg
    simpa using (geometryAcceptable_eq_false_iff gg).2 hbad
  · intro u w clamped
    have hw : amendTitle p g t = w := by
      dsimp only [w, u]
      unfold amendTitle
      cases g with
      | none =>
        cases p with
        | none => rfl
        | some pp => dsimp only; rw [storeProcess_eq]
      | some gg =>
        cases p with
        | none => exact storeGeometry_eq gg t
        | some pp => dsimp only; rw [storeProcess_eq, storeGeometry_eq]
    obtain ⟨hclamp, hfree⟩ := clampedCode_spec p
    refine ⟨clampedCode p, hclamp, hfree, exec_titleAmend h hgroups hcode ht ?_⟩
    have hcount : ¬ (g.isSome && decide (0 < t.volumeCount)) = true := by
      cases g with
      | none => simp
      | some gg => simp [(hgood gg rfl).1]
    have haccept : ¬ (!(g.map geometryAcceptable).getD true) = true := by
      cases g with
      | none => simp
      | some gg =>
        obtain ⟨-, hrange, hplan⟩ := hgood gg rfl
        simp [geometryAcceptable, hrange, hplan]
    rw [if_neg hcount, if_neg haccept, State.touchTitle_updTitle _ _ (amendTitle_code p g),
      show s.taken.titles = s.titles from rfl, State.filter_code_eq hnodup ht, filter_bne_eq Title.code, List.map_cons, hw]
    rfl

end Sys2Proof.Machine

/-! SUPPORT. TITLE_LOAD: the ranges it checks, the slot it takes, the record it makes and what it binds (R7 to R11),
and the claim about it. -/

namespace Sys2Proof.Machine

variable {s : State} {code n : Nat} {g : GeometryGroup} {p : ProcessGroup}

/-! ### Ranges (section 1.2) and the nominal fold plan (R9) -/

theorem jacketInRange_iff (j : JacketPart) : jacketInRange j = true ↔ 2000 ≤ j.sheet ∧ j.sheet ≤ 9000
    ∧ j.centre ≤ j.sheet ∧ 800 ≤ j.panel ∧ j.panel ≤ 3000 ∧ 20 ≤ j.spine ∧ j.spine ≤ 900 ∧ j.wrap ≤ 50
    ∧ j.growth ≤ 100 ∧ 400 ≤ j.minFlap ∧ j.minFlap ≤ 1500 := by
  simp [jacketInRange, and_assoc]

theorem isSome_marryOfByte_iff (m : Nat) : (marryOfByte m).isSome = true ↔ m ≤ 1 := by
  match m with
  | 0 | 1 => simp [marryOfByte]
  | m + 2 => simp [marryOfByte]

theorem geometryInRange_iff (g : GeometryGroup) : geometryInRange g = true ↔ g.marry ≤ 1 ∧ 20 ≤ g.tNom ∧ g.tNom ≤ 800
    ∧ 10 ≤ g.board ∧ g.board ≤ 50 ∧ ∀ j, g.jacket = some j → jacketInRange j = true := by
  have hjacket : (g.jacket.map jacketInRange).getD true = true ↔ ∀ j, g.jacket = some j → jacketInRange j = true := by
    cases g.jacket <;> simp
  simp only [geometryInRange, Bool.and_eq_true, isSome_marryOfByte_iff, decide_eq_true_eq, hjacket, and_assoc]

theorem nominalPlanPasses_iff (g : GeometryGroup) :
    nominalPlanPasses g = true ↔ ∀ j, g.jacket = some j → flapsHold j j.spine = true := by
  unfold nominalPlanPasses
  cases g.jacket <;> simp

/-! ### The slot (R10) -/

/-- R1: the lowest-numbered EMPTY slot. -/
theorem State.emptyTitleSlot_of_lowest (hn : n < 48) (hfree : ∀ t ∈ s.titles, t.slot ≠ n)
    (hlow : ∀ m < n, ∃ t ∈ s.titles, t.slot = m) : s.emptyTitleSlot = some n := by
  refine List.find?_range_eq_some.2 ⟨by simpa using hfree, List.mem_range.2 hn, fun m hm => ?_⟩
  obtain ⟨t, ht, htm⟩ := hlow m hm
  simp only [Bool.not_eq_true', List.all_eq_false]
  exact ⟨t, ht, by simp [htm]⟩

theorem State.emptyTitleSlot_of_full (hfull : ∀ m < 48, ∃ t ∈ s.titles, t.slot = m) : s.emptyTitleSlot = none := by
  refine List.find?_eq_none.2 fun m hm => ?_
  obtain ⟨t, ht, htm⟩ := hfull m (List.mem_range.1 hm)
  simp only [Bool.not_eq_true, List.all_eq_false]
  exact ⟨t, ht, by simp [htm]⟩

theorem State.evictable_eq_none (h : ∀ t ∈ s.titles, titleState t ≠ .dormant) : s.evictable = none :=
  List.find?_eq_none.2 fun t ht => by simpa using h t (List.mem_reverse.1 ht)

/-- R10: the DORMANT title nearest the tail of the recency list. -/
theorem State.evictable_of_split {before after : List Title} {e : Title} (hsplit : s.titles = before ++ e :: after)
    (he : titleState e = .dormant) (hafter : ∀ t ∈ after, titleState t ≠ .dormant) : s.evictable = some e := by
  unfold State.evictable
  rw [hsplit, List.reverse_append, List.reverse_cons, List.append_assoc, List.find?_append,
    List.find?_eq_none.2 fun t ht => by simpa using hafter t (List.mem_reverse.1 ht)]
  simp [he]

/-- R10: the titles left once one is evicted, where the codes are distinct. -/
theorem filter_code_split {before after : List Title} {e : Title}
    (hnodup : ((before ++ e :: after).map Title.code).Nodup) :
    (before ++ e :: after).filter (fun t => t.code != e.code) = before ++ after := by
  rw [List.map_append, List.map_cons, List.nodup_append] at hnodup
  obtain ⟨-, hcons, hdisjoint⟩ := hnodup
  have hbefore : ∀ t ∈ before, t.code ≠ e.code := fun t ht =>
    hdisjoint _ (List.mem_map_of_mem ht) _ List.mem_cons_self
  have hafter : ∀ t ∈ after, t.code ≠ e.code := fun t ht h =>
    (List.nodup_cons.1 hcons).1 (h ▸ List.mem_map_of_mem ht)
  rw [List.filter_append, List.filter_cons_of_neg (by simp), List.filter_eq_self.2 (by simpa using hbefore),
    List.filter_eq_self.2 (by simpa using hafter)]

/-! ### Refusals, and what is stored (R7, R11) -/

theorem goodTitleCode_iff : goodTitleCode code = true ↔ code ≠ 0 ∧ code ≤ 16777215 := by
  rw [goodTitleCode, Bool.and_eq_true, bne_iff_ne, decide_eq_true_iff]
  rfl

theorem loadTitle_of_badCode (hcode : goodTitleCode code = false) :
    loadTitle code g p s = (s, refuse .titleLoad .badValue) :=
  if_pos (by simp [hcode])

theorem loadTitle_of_resident (hcode : goodTitleCode code = true) (h : (s.title? code).isSome = true) :
    loadTitle code g p s = (s, refuse .titleLoad .duplicate) := by
  unfold loadTitle
  rw [hcode]
  exact if_pos h

theorem loadTitle_of_badGeometry (hcode : goodTitleCode code = true) (h : s.title? code = none)
    (hbad : geometryAcceptable g = false) : loadTitle code g p s = (s, refuse .titleLoad .badValue) := by
  unfold loadTitle
  rw [hcode, h, hbad]
  rfl

theorem loadTitle_of_full (hcode : goodTitleCode code = true) (h : s.title? code = none)
    (hgood : geometryAcceptable g = true) (hslot : s.slotForLoad = none) :
    loadTitle code g p s = (s, refuse .titleLoad .tableFull) := by
  unfold loadTitle
  rw [hcode, h, hgood, hslot]
  rfl

theorem loadTitle_of_slot (hcode : goodTitleCode code = true) (h : s.title? code = none)
    (hgood : geometryAcceptable g = true) {victim : Option Nat} (hslot : s.slotForLoad = some (n, victim)) :
    loadTitle code g p s = ((s.storeTitle (newTitle n code g p) victim).afterLoad code s,
      ⟨0x40, clampedCode (some p), none, le 3 (victim.getD 0) ++ le 1 (s.waitingFor code).length⟩) := by
  unfold loadTitle
  rw [hcode, h, hgood, hslot]
  rfl

/-- R8, R11: the record that a TITLE_LOAD makes, once `c` volumes are bound to it. -/
theorem countedIn_newTitle {c : Nat} (hc : c ≤ 64) : countedIn c (newTitle n code g p) = {
    slot := n, code := code, marry := if g.marry = 1 then .unit else .run, tNom := g.tNom, board := g.board
    jacket := g.jacket, band := if p.band = 0 then .tight else if p.band = 2 then .openBand else .standard
    dwellBase := min p.dwellBase 600, dwellSlope := min p.dwellSlope 50, quota := p.quota, hold := false
    retiring := false, volumeCount := c, admitted := c, outJacketed := 0, outBare := 0, diverted := 0
    cleared := 0, quotaReached := false } := by
  have hadmitted : min c Config.counterMax = c := by
    unfold Config.counterMax
    omega
  rw [newTitle, storeProcess_eq, storeGeometry_eq]
  simp only [countedIn, emptyTitle, Nat.zero_add, hadmitted]

/-- R97: a held CASE_CALL is evaluated again where the front waited for the title. -/
theorem State.afterLoad_eq_of_front {v : Volume} {before : State} (h : before.caserFront = some v) (code : Nat) (t : State) :
    t.afterLoad code before = if waitsFor code v then t.reevaluate Query.isCaseCall else t := by
  unfold State.afterLoad waitsFor
  rw [h]
  exact if_congr (by simp) rfl rfl

theorem State.afterLoad_of_noFront {before : State} (h : before.caserFront = none) (code : Nat) (t : State) :
    t.afterLoad code before = t := by
  unfold State.afterLoad
  rw [h]

/-- R11: what an accepted load stores: the record `u` at the head of the titles kept, and the volumes it binds. -/
def State.loaded (s : State) (code : Nat) (u : Title) (kept : List Title) : State :=
  { s with
    titles := u :: kept
    missList := s.missList.filter fun m => m ≠ code
    volumes := s.volumes.map fun v => if waitsFor code v then { v with
        state := .awaitCase, ungauged := v.raw == 0 || v.raw == 2047
        bound := some (bindPart s.profile u v.raw) } else v }

/-- R10: the titles that an accepted load keeps, with the slot it takes. -/
theorem State.slotForLoad_of_split (hcodes : (s.titles.map Title.code).Nodup) {victim : Option Nat} {kept : List Title}
    (hslot : victim = none ∧ kept = s.titles ∧ n < 48 ∧ (∀ t ∈ s.titles, t.slot ≠ n) ∧ (∀ m < n, ∃ t ∈ s.titles, t.slot = m)
      ∨ (∀ m < 48, ∃ t ∈ s.titles, t.slot = m) ∧ ∃ before e after, s.titles = before ++ e :: after
        ∧ titleState e = .dormant ∧ (∀ t ∈ after, titleState t ≠ .dormant) ∧ n = e.slot ∧ victim = some e.code
        ∧ kept = before ++ after) :
    s.slotForLoad = some (n, victim)
      ∧ s.evict victim = if victim.isSome then State.raise .evicted { s with titles := kept } else { s with titles := kept } := by
  obtain ⟨rfl, rfl, hn, hfree, hlow⟩ | ⟨hfull, before, e, after, hsplit, he, hafter, rfl, rfl, rfl⟩ := hslot
  · refine ⟨?_, rfl⟩
    unfold State.slotForLoad
    rw [State.emptyTitleSlot_of_lowest hn hfree hlow]
  · refine ⟨?_, ?_⟩
    · unfold State.slotForLoad
      rw [State.emptyTitleSlot_of_full hfull, State.evictable_of_split hsplit he hafter]
      rfl
    · rw [hsplit] at hcodes
      have hkept := filter_code_split hcodes
      rw [← hsplit] at hkept
      exact congrArg (fun ts => State.raise .evicted { s with titles := ts }) hkept

/-- R11: an accepted load. -/
theorem State.storeTitle_newTitle (hnumbers : (s.volumes.map Volume.number).Nodup) (hnone : ∀ t ∈ s.titles, t.code ≠ code)
    {victim : Option Nat} {kept : List Title} (hevict : s.evict victim
      = if victim.isSome then State.raise .evicted { s with titles := kept } else { s with titles := kept }) :
    s.storeTitle (newTitle n code g p) victim
      = if victim.isSome
        then State.raise .evicted (s.loaded code (countedIn (s.waitingFor code).length (newTitle n code g p)) kept)
        else s.loaded code (countedIn (s.waitingFor code).length (newTitle n code g p)) kept := by
  have hmiss : (s.missList.filter fun m => m != code) = s.missList.filter fun m => m ≠ code :=
    filter_bne_eq id code s.missList
  rw [State.storeTitle_of_nodup victim hnumbers (by simp) (by simpa using hnone), newTitle_code, hevict, hmiss]
  split <;> rfl

/-- Settles O35. -/
theorem titleLoad : Obligations.TitleLoad := by
  unfold Obligations.TitleLoad
  refine ⟨fun g => ⟨?_, ?_⟩, fun s code g p h hmax => ?_, fun s code g p n evicted kept hbounded h hcode hmax hnone hrange
    hplan hslot => ?_⟩
  · simp only [geometryInRange_iff, jacketInRange_iff]
  · rw [nominalPlanPasses_iff]
    exact forall₂_congr fun j _ => flapsHold_iff j j.spine
  · have hrefuse {r : Reason} (e : loadTitle code g p s.taken = (s.taken, refuse .titleLoad r)) :
        exec (.titleLoad code g p) s = .next (State.answered ⟨0x40, .refused, some r, []⟩ s) :=
      congrArg Host.Outcome.next (State.request_of_taken s h e)
    refine ⟨fun hcode => hrefuse (loadTitle_of_badCode ?_), fun hcode hsome => ?_, fun hcode hnone => ?_⟩
    · rw [← Bool.not_eq_true, goodTitleCode_iff]
      exact fun hgood => hgood.1 hcode
    · have hresident : (s.taken.title? code).isSome = true := by
        obtain ⟨t, ht, htc⟩ := hsome
        exact List.find?_isSome.2 ⟨t, ht, by simpa using htc⟩
      exact hrefuse (loadTitle_of_resident (goodTitleCode_iff.2 ⟨hcode, hmax⟩) hresident)
    · have hgood := goodTitleCode_iff.2 ⟨hcode, hmax⟩
      have hfree : s.taken.title? code = none := List.find?_eq_none.2 fun t ht => by simpa using hnone t ht
      refine ⟨fun hbad => hrefuse (loadTitle_of_badGeometry hgood hfree ((geometryAcceptable_eq_false_iff g).2 (.inl hbad))),
        fun hbad => hrefuse (loadTitle_of_badGeometry hgood hfree ((geometryAcceptable_eq_false_iff g).2 (.inr hbad))),
        fun hrange hplan hfull hlive => hrefuse (loadTitle_of_full hgood hfree (Bool.and_eq_true_iff.2 ⟨hrange, hplan⟩) ?_)⟩
      unfold State.slotForLoad
      rw [State.emptyTitleSlot_of_full (s := s.taken) hfull, State.evictable_eq_none (s := s.taken) hlive]
      rfl
  · intro waits c t stored noticed clamped
    have hfree : s.taken.title? code = none := List.find?_eq_none.2 fun t ht => by simpa using hnone t ht
    obtain ⟨htake, hevict⟩ := State.slotForLoad_of_split (s := s.taken) hbounded.titleCodesDistinct hslot
    have hcount : (s.taken.waitingFor code).length = c := List.countP_eq_length_filter.symm
    have hc : c ≤ 64 := List.countP_le_length.trans hbounded.volumes
    have hstored : s.taken.storeTitle (newTitle n code g p) evicted = noticed := by
      rw [State.storeTitle_newTitle (s := s.taken) hbounded.volumeNumbersDistinct hnone hevict, hcount,
        countedIn_newTitle hc]
      rfl
    have hload := loadTitle_of_slot (s := s.taken) (p := p) (goodTitleCode_iff.2 ⟨hcode, hmax⟩) hfree
      (Bool.and_eq_true_iff.2 ⟨hrange, hplan⟩) htake
    have hsup : noticed.supervisor = s.taken.supervisor := by
      rw [← hstored, State.storeTitle_supervisor]
    rw [hstored, hcount] at hload
    have hshifted : (noticed.afterLoad code s.taken).supervisor.shifted = [0x00#8] := by
      obtain e | e := noticed.afterLoad_cases code s.taken <;> rw [e]
      · rw [hsup]
        rfl
      · rw [State.reevaluate_supervisor, hsup]
        rfl
    refine congrArg Host.Outcome.next ((State.request_of_awaiting h hload hshifted).trans ?_)
    have hanswer : clampedCode (some p) = if clamped then .okClamped else .ok := if_congr (processClamped_iff p) rfl rfl
    rw [hanswer]
    cases hfront : s.caserFront with
    | none =>
      rw [State.afterLoad_of_noFront (before := s.taken) hfront]
      rfl
    | some v =>
      rw [State.afterLoad_eq_of_front (before := s.taken) hfront]
      rfl

end Sys2Proof.Machine

/-! SUPPORT. LINE_CLEAR in STOP: the records removed one after another, and what they leave of the titles, the notices
and the pace (R19, R65, R102, R127, R146, R178), and the claim about it. -/

namespace Sys2Proof.Machine

variable {s u : State} {v : Volume} {code : Nat}

/-! ### The pace stays at STOP (R147) -/

theorem eq_stop_of_rank {p : Pace} (h : paceRank p ≤ 1) : p = .stop := by
  cases p <;> simp [paceRank] at h ⊢

/-- R150, R151: what holds the pace at STOP is the governor's alone, and no count. -/
theorem State.lowestPace_eq_stop (hgov : u.governor = s.governor) (h : s.lowestPace = .stop) : u.lowestPace = .stop := by
  obtain ⟨-, hreq, hstep, hceiling⟩ := u.lowestPace_spec
  refine eq_stop_of_rank ?_
  obtain e | e | ⟨k, hk, e⟩ := s.lowestPace_spec.1
  · rwa [hgov, ← e, h] at hreq
  · rwa [hgov, ← e, h] at hstep
  · rw [h] at e
    have hk' : u.ceilingStands k = true := by
      cases k
      case guard | coldPlatens => simpa [State.ceilingStands, hgov] using hk
      all_goals cases e
    have := hceiling k hk'
    rwa [← e] at this

/-- R147: at STOP a change that leaves the governor leaves the pace. -/
theorem State.repace_of_stopped (hgov : u.governor = s.governor) (hstop : s.governor.effective = .stop)
    (h : s.lowestPace = .stop) : u.repace = u :=
  State.repace_of_eq ((State.lowestPace_eq_stop hgov h).trans (by rw [hgov, hstop]))

/-! ### A title while its volumes are cleared (R19) -/

/-- R18: the volumes still bound to the title of a code. -/
def State.remaining (u : State) (code : Nat) : Nat := u.volumes.countP (boundTo code)

/-- R15: a RETIRING title has gone with its last volume. -/
def State.hasRetired (u : State) (t : Title) : Bool := t.retiring && u.remaining t.code == 0

/-- R19: a title with `r` of its volumes left, the others counted as cleared. -/
def partCleared (r : Nat) (t : Title) : Title :=
  { t with
    volumeCount := r
    cleared := if t.volumeCount = r then t.cleared else min (t.cleared + (t.volumeCount - r)) 4294967295 }

theorem partCleared_volumeCount (t : Title) : partCleared t.volumeCount t = t := by simp [partCleared]

/-- R19: one more volume is cleared. -/
theorem countOut_partCleared {r : Nat} {t : Title} (h : r + 1 ≤ t.volumeCount) :
    countOut .cleared (partCleared (r + 1) t) = partCleared r t := by
  have hne : t.volumeCount ≠ r := by omega
  simp only [countOut, partCleared, countUp, Config.counterMax, if_neg hne, Title.mk.injEq, true_and, and_true]
  split <;> omega

theorem State.counted_cleared (t : Title) (code : Nat) (s : State) :
    s.counted .cleared t code = s.updTitle code (countOut .cleared) :=
  if_neg (by simp [reachesQuota, Removal.isDelivery])

/-- R58: a removal takes one volume of its title. -/
theorem State.remaining_removeVolume (hnodup : (u.volumes.map Volume.number).Nodup) (hv : v ∈ u.volumes) (k : Removal)
    (code : Nat) : u.remaining code = (u.removeVolume k v).remaining code + if boundTo code v then 1 else 0 := by
  unfold State.remaining
  rw [State.removeVolume_volumes, (perm_cons_filter_number hnodup hv).countP_eq, List.countP_cons]

/-! ### The clear, record by record (R65) -/

/-- What a clear in STOP asks of the state. -/
structure State.Clearable (s : State) : Prop where
  misses : s.MissesCarried
  codes : (s.titles.map Title.code).Nodup
  resident : ∀ v ∈ s.volumes, v.bound.isSome = true → ∃ t ∈ s.titles, t.code = v.title
  count : ∀ t ∈ s.titles, t.volumeCount = s.remaining t.code
  retiring : ∀ t ∈ s.titles, t.retiring = true → 0 < t.volumeCount
  post : ∀ n ∈ s.postPress, ∃ v ∈ s.volumes, v.number = n
  stopped : s.governor.effective = .stop
  settled : s.lowestPace = .stop

/-- What stands once some records of `s` are cleared. -/
structure State.Clearing (s u : State) : Prop where
  volumes : u.volumes.Sublist s.volumes
  governor : u.governor = s.governor
  post : ∀ n ∈ u.postPress, ∃ v ∈ u.volumes, v.number = n
  titles : u.titles = (s.titles.filter fun t => !u.hasRetired t).map fun t => partCleared (u.remaining t.code) t
  notices : u.notices = if s.titles.any u.hasRetired then (State.raise .retired s).notices else s.notices

theorem State.hasRetired_self (hs : s.Clearable) {t : Title} (ht : t ∈ s.titles) : s.hasRetired t = false := by
  unfold State.hasRetired
  cases hret : t.retiring with
  | false => rfl
  | true =>
    have hpos := hs.retiring t ht hret
    rw [hs.count t ht] at hpos
    simpa using Nat.pos_iff_ne_zero.1 hpos

theorem State.Clearable.clearing (hs : s.Clearable) : s.Clearing s := by
  refine ⟨List.Sublist.refl _, rfl, hs.post, ?_, (if_neg ?_).symm⟩
  · rw [List.filter_eq_self.2 fun t ht => by simp [State.hasRetired_self hs ht]]
    refine (List.map_id _).symm.trans (List.map_congr_left fun t ht => ?_)
    rw [← hs.count t ht, partCleared_volumeCount]
    rfl
  · rw [List.any_eq_true]
    rintro ⟨t, ht, hret⟩
    rw [State.hasRetired_self hs ht] at hret
    cases hret

theorem State.Clearing.post_removeVolume (h : s.Clearing u) (v : Volume) :
    ∀ n ∈ (u.removeVolume .cleared v).postPress, ∃ w ∈ (u.removeVolume .cleared v).volumes, w.number = n := by
  intro n hn
  rw [State.removeVolume_postPress, List.mem_filter, bne_iff_ne] at hn
  obtain ⟨w, hw, rfl⟩ := h.post n hn.1
  rw [State.removeVolume_volumes]
  exact ⟨w, List.mem_filter.2 ⟨hw, by simpa using hn.2⟩, rfl⟩

/-- R15: RETIRED raised once is RETIRED raised. -/
theorem State.Clearing.raise_retired_notices (h : s.Clearing u) :
    (State.raise .retired u).notices = (State.raise .retired s).notices := by
  change ({ u.notices with flags := u.notices.flags ||| (u.notices.enables &&& noticeMask .retired) } : NoticeUnit) = _
  rw [h.notices]
  split
  · simp only [State.raise, BitVec.or_assoc, BitVec.or_self]
  · rfl

section
variable (hs : s.Clearable) (h : s.Clearing u) (hv : v ∈ u.volumes)

include hs h

theorem State.Clearing.numbers : (u.volumes.map Volume.number).Nodup :=
  hs.misses.numbersDistinct.sublist (h.volumes.map _)

/-- R147: a removal at STOP, without the pace. -/
theorem State.Clearing.removeVolume_eq (v : Volume) : u.removeVolume .cleared v
    = if v.bound.isSome then (u.dropVolume v.number).countRemoval .cleared v.title
      else (u.dropVolume v.number).settleMiss v.title := by
  unfold State.removeVolume
  refine State.repace_of_stopped (s := s) ?_ hs.stopped hs.settled
  rw [← h.governor]
  split
  · exact State.countRemoval_governor ..
  · exact State.settleMiss_governor ..

include hv

/-- R65: a volume without a title is cleared. -/
theorem State.Clearing.removeVolume_of_unbound (hbound : v.bound.isSome = false) :
    s.Clearing (u.removeVolume .cleared v) := by
  have hremaining : (u.removeVolume .cleared v).remaining = u.remaining := funext fun c => by
    have hcount := State.remaining_removeVolume (h.numbers hs) hv .cleared c
    have hother : boundTo c v = false := by simp [boundTo, hbound]
    rw [hother] at hcount
    exact hcount.symm
  have hretired : (u.removeVolume .cleared v).hasRetired = u.hasRetired := funext fun t => by
    rw [State.hasRetired, hremaining, State.hasRetired]
  have e := h.removeVolume_eq hs v
  rw [hbound] at e
  refine ⟨?_, ?_, h.post_removeVolume v, ?_, ?_⟩
  · rw [State.removeVolume_volumes]
    exact List.filter_sublist.trans h.volumes
  · rw [e, ← h.governor]
    exact State.settleMiss_governor ..
  · rw [hretired, hremaining, ← h.titles, e]
    exact State.settleMiss_titles ..
  · rw [hretired, ← h.notices, e]
    exact State.settleMiss_notices ..

/-- R18: a bound volume cleared is one fewer of its own title, and none of another. -/
theorem State.Clearing.remaining_bound (hbound : v.bound.isSome = true) :
    u.remaining v.title = (u.removeVolume .cleared v).remaining v.title + 1
      ∧ ∀ c, c ≠ v.title → (u.removeVolume .cleared v).remaining c = u.remaining c := by
  have hcount := State.remaining_removeVolume (h.numbers hs) hv .cleared
  refine ⟨?_, fun c hc => ?_⟩
  · have hown := hcount v.title
    rwa [show boundTo v.title v = true by simp [boundTo, hbound], if_pos rfl] at hown
  · have hother := hcount c
    rw [show boundTo c v = false by simp [boundTo, hc.symm]] at hother
    exact hother.symm

/-- R1: the record that the title of a volume has by then. -/
theorem State.Clearing.title?_eq {t : Title} (ht : t ∈ s.titles) (hcode : t.code = v.title)
    (hbound : v.bound.isSome = true) : u.title? v.title = some (partCleared (u.remaining v.title) t) := by
  obtain ⟨hown, -⟩ := h.remaining_bound hs hv hbound
  have hstands : (!u.hasRetired t) = true := by simp [State.hasRetired, hcode, hown]
  have hmem : partCleared (u.remaining t.code) t ∈ u.titles := by
    rw [h.titles]
    exact List.mem_map_of_mem (List.mem_filter.2 ⟨ht, hstands⟩)
  obtain ⟨x, hx⟩ := Option.isSome_iff_exists.1 (List.find?_isSome (p := fun t => t.code == v.title).2
    ⟨_, hmem, by simpa [partCleared] using hcode⟩)
  have hxmem := List.mem_of_find?_eq_some hx
  have hxcode : x.code = v.title := by simpa using List.find?_some hx
  rw [h.titles, List.mem_map] at hxmem
  obtain ⟨y, hy, rfl⟩ := hxmem
  obtain rfl : y = t := List.inj_on_of_nodup_map hs.codes (List.mem_filter.1 hy).1 ht (hxcode.trans hcode.symm)
  rw [← hcode]
  exact hcode ▸ hx

/-- R19: the titles counted, while the volume's own stands. -/
theorem State.Clearing.titles_counted (hbound : v.bound.isSome = true)
    (hsame : ∀ x ∈ s.titles, (u.removeVolume .cleared v).hasRetired x = u.hasRetired x) :
    u.titles.map (fun x => if x.code = v.title then countOut .cleared x else x)
      = (s.titles.filter fun x => !(u.removeVolume .cleared v).hasRetired x).map fun x =>
        partCleared ((u.removeVolume .cleared v).remaining x.code) x := by
  obtain ⟨hown, hother⟩ := h.remaining_bound hs hv hbound
  rw [List.filter_congr fun x hx => congrArg Bool.not (hsame x hx), h.titles, List.map_map]
  refine List.map_congr_left fun x hx => ?_
  have hx := (List.mem_filter.1 hx).1
  by_cases hxcode : x.code = v.title
  · have hle : u.remaining v.title ≤ x.volumeCount := by
      rw [hs.count x hx, hxcode]
      exact h.volumes.countP_le
    rw [Function.comp, if_pos (show (partCleared (u.remaining x.code) x).code = v.title from hxcode), hxcode, hown,
      countOut_partCleared (hown ▸ hle)]
  · rw [Function.comp, if_neg (show (partCleared (u.remaining x.code) x).code ≠ v.title from hxcode), hother _ hxcode]

/-- R15: the titles left, where the volume's own goes with its last volume. -/
theorem State.Clearing.titles_retired (hbound : v.bound.isSome = true)
    (hgone : ∀ x ∈ s.titles, (u.removeVolume .cleared v).hasRetired x = (u.hasRetired x || x.code == v.title)) :
    (u.titles.map fun x => if x.code = v.title then countOut .cleared x else x).filter (fun x => x.code != v.title)
      = (s.titles.filter fun x => !(u.removeVolume .cleared v).hasRetired x).map fun x =>
        partCleared ((u.removeVolume .cleared v).remaining x.code) x := by
  obtain ⟨-, hother⟩ := h.remaining_bound hs hv hbound
  rw [filter_bne_eq Title.code, filter_updTitle (fun x => (countOut_fields .cleared x).1), h.titles, List.filter_map,
    List.filter_filter]
  have hkeep : (s.titles.filter fun x => decide ((partCleared (u.remaining x.code) x).code ≠ v.title) && !u.hasRetired x)
      = s.titles.filter fun x => !(u.removeVolume .cleared v).hasRetired x := List.filter_congr fun x hx => by
    rw [hgone x hx, Bool.not_or, Bool.and_comm]
    refine congrArg (!u.hasRetired x && ·) ?_
    change decide (x.code ≠ v.title) = _
    rw [Bool.eq_iff_iff]
    simp
  refine (congrArg (List.map _) hkeep).trans (List.map_congr_left fun x hx => ?_)
  obtain ⟨hx, hlive⟩ := List.mem_filter.1 hx
  rw [hgone x hx, Bool.not_or, Bool.and_eq_true] at hlive
  rw [hother x.code (by simpa using hlive.2)]

/-- R15, R19: the titles and the notices once a volume of the title `t` is cleared. -/
theorem State.Clearing.titles_removeVolume {t : Title} (ht : t ∈ s.titles) (hcode : t.code = v.title)
    (hbound : v.bound.isSome = true) :
    ((u.removeVolume .cleared v).titles = (s.titles.filter fun t => !(u.removeVolume .cleared v).hasRetired t).map
        fun t => partCleared ((u.removeVolume .cleared v).remaining t.code) t)
      ∧ (u.removeVolume .cleared v).notices
        = if s.titles.any (u.removeVolume .cleared v).hasRetired then (State.raise .retired s).notices else s.notices := by
  obtain ⟨hown, hother⟩ := h.remaining_bound hs hv hbound
  have hsingle {x : Title} (hx : x ∈ s.titles) (hxcode : x.code = v.title) : x = t :=
    List.inj_on_of_nodup_map hs.codes hx ht (hxcode.trans hcode.symm)
  have hothers {x : Title} (hxcode : x.code ≠ v.title) :
      (u.removeVolume .cleared v).hasRetired x = u.hasRetired x := by
    rw [State.hasRetired, hother _ hxcode, State.hasRetired]
  have e := h.removeVolume_eq hs v
  rw [if_pos hbound] at e
  obtain ⟨hnone, -⟩ | ⟨x, hx, hcase⟩ := (u.dropVolume v.number).countRemoval_cases .cleared v.title
  · exact absurd ((h.title?_eq hs hv ht hcode hbound).symm.trans hnone) (by simp)
  obtain rfl := Option.some.inj (hx.symm.trans (h.title?_eq hs hv ht hcode hbound))
  obtain ⟨hstay, e'⟩ | ⟨hgo, e'⟩ := hcase
  · have hsame (x : Title) (hx : x ∈ s.titles) : (u.removeVolume .cleared v).hasRetired x = u.hasRetired x := by
      by_cases hxcode : x.code = v.title
      · obtain rfl := hsingle hx hxcode
        have hmore : x.retiring = true → 1 < u.remaining v.title := by
          have hstay : (x.retiring && decide (u.remaining v.title ≤ 1)) = false := hstay
          simpa using hstay
        unfold State.hasRetired
        rw [hxcode]
        cases hret : x.retiring with
        | false => rfl
        | true =>
          have := hmore hret
          rw [Bool.eq_iff_iff]
          simp
          omega
      · exact hothers hxcode
    refine ⟨?_, ?_⟩
    · rw [← h.titles_counted hs hv hbound hsame]
      rw [e, e', State.counted_cleared]
      rfl
    · have hany : s.titles.any (u.removeVolume .cleared v).hasRetired = s.titles.any u.hasRetired := by
        rw [Bool.eq_iff_iff, List.any_eq_true, List.any_eq_true]
        exact exists_congr fun x => and_congr_right fun hx => by rw [hsame x hx]
      rw [hany, ← h.notices]
      rw [e, e', State.counted_cleared]
      rfl
  · have hgone (x : Title) (hx : x ∈ s.titles) :
        (u.removeVolume .cleared v).hasRetired x = (u.hasRetired x || x.code == v.title) := by
      by_cases hxcode : x.code = v.title
      · obtain rfl := hsingle hx hxcode
        obtain ⟨hret, hlast⟩ : x.retiring = true ∧ u.remaining v.title ≤ 1 := by
          have hgo : (x.retiring && decide (u.remaining v.title ≤ 1)) = true := hgo
          simpa using hgo
        have hzero : (u.removeVolume .cleared v).remaining v.title = 0 := by omega
        simp [State.hasRetired, hxcode, hret, hzero]
      · rw [hothers hxcode]
        simp [hxcode]
    refine ⟨?_, ?_⟩
    · rw [← h.titles_retired hs hv hbound hgone]
      rw [e, e', State.counted_cleared]
      rfl
    · have hany : s.titles.any (u.removeVolume .cleared v).hasRetired = true := by
        rw [List.any_eq_true]
        exact ⟨t, ht, by simp [hgone t ht, hcode]⟩
      rw [if_pos hany, e, e', State.counted_cleared, ← h.raise_retired_notices]
      rfl

/-- R65: a volume of a title is cleared. -/
theorem State.Clearing.removeVolume_of_bound (hbound : v.bound.isSome = true) :
    s.Clearing (u.removeVolume .cleared v) := by
  obtain ⟨t, ht, hcode⟩ := hs.resident v (h.volumes.subset hv) hbound
  obtain ⟨htitles, hnotices⟩ := h.titles_removeVolume hs hv ht hcode hbound
  refine ⟨?_, ?_, h.post_removeVolume v, htitles, hnotices⟩
  · rw [State.removeVolume_volumes]
    exact List.filter_sublist.trans h.volumes
  · rw [h.removeVolume_eq hs v, if_pos hbound, ← h.governor]
    exact State.countRemoval_governor ..

end

/-- R65: every record cleared. -/
theorem State.Clearable.clearVolumes (hs : s.Clearable) : s.Clearing s.clearVolumes :=
  State.clearVolumes_induction (P := s.Clearing) (fun u v hv h => by
    cases hbound : v.bound.isSome with
    | false => exact h.removeVolume_of_unbound hs hv hbound
    | true => exact h.removeVolume_of_bound hs hv hbound) hs.clearing

end Sys2Proof.Machine

/-! SUPPORT. The claim about LINE_CLEAR (R177, R178). -/

namespace Sys2Proof.Machine

variable {s : State}

/-- R178: the line once it is clear. -/
def State.emptied (s : State) : State :=
  { s with
    volumes := [], postPress := [], missList := [], caseWindow := [], jacketWindow := [], reports := []
    titles := (s.titles.filter fun t => !t.retiring).map fun t => { t with
      volumeCount := 0
      cleared := if t.volumeCount = 0 then t.cleared else min (t.cleared + t.volumeCount) 4294967295 }
    bays := s.bays.map fun r => if r.state = .reserved ∨ r.state = .closed ∨ r.state = .done ∨ r.state = .emptying
      then ⟨.vacant, none, some s.clock, none, none, none, false, false⟩ else r
    stations := s.stations.map fun r => { r with slot := clearSlot r.slot } }

theorem State.Clearable.clearVolumes_eq (hs : s.Clearable) (hnumbers : ∀ v ∈ s.volumes, v.number < 64) :
    s.clearVolumes = { s with
      volumes := [], postPress := [], missList := []
      titles := (s.titles.filter fun t => !t.retiring).map (partCleared 0)
      notices := if s.titles.any fun t => t.retiring then (State.raise .retired s).notices else s.notices } := by
  have h := hs.clearVolumes
  have hvol := State.clearVolumes_volumes_eq_nil hnumbers
  have hpost : s.clearVolumes.postPress = [] := List.eq_nil_iff_forall_not_mem.2 fun n hn => by
    obtain ⟨v, hv, -⟩ := h.post n hn
    rw [hvol] at hv
    cases hv
  have hmisses : s.clearVolumes.MissesCarried :=
    State.clearVolumes_induction (P := State.MissesCarried) (fun _ _ hv hu => hu.removeVolume .cleared hv) hs.misses
  have hmiss : s.clearVolumes.missList = [] := List.eq_nil_iff_forall_not_mem.2 fun c hc => by
    obtain ⟨v, hv, -⟩ := hmisses.carried c hc
    rw [hvol] at hv
    cases hv
  have hzero (c : Nat) : s.clearVolumes.remaining c = 0 := by
    rw [State.remaining, hvol]
    rfl
  have hretired : s.clearVolumes.hasRetired = fun t => t.retiring := funext fun t => by
    rw [State.hasRetired, hzero]
    simp
  have htitles := h.titles
  have hnotices := h.notices
  simp only [hretired, hzero] at htitles hnotices
  rw [State.clearVolumes_frame, hvol, hpost, hmiss, htitles, hnotices, h.governor]

/-- R104, R127: a bay after the clear. -/
theorem clearBay_eq (clock : Nat) (r : Bay) : clearBay clock r
    = if r.state = .reserved ∨ r.state = .closed ∨ r.state = .done ∨ r.state = .emptying
      then ⟨.vacant, none, some clock, none, none, none, false, false⟩ else r := by
  have hoccupied : r.state.isOccupied = true
      ↔ r.state = .reserved ∨ r.state = .closed ∨ r.state = .done ∨ r.state = .emptying := by
    cases r.state <;> simp [BayState.isOccupied]
  exact if_congr hoccupied rfl rfl

theorem State.Clearable.clearLine_eq (hs : s.Clearable) (hnumbers : ∀ v ∈ s.volumes, v.number < 64) :
    s.clearVolumes.clearLine.repace
      = if s.titles.any fun t => t.retiring then State.raise .retired s.emptied else s.emptied := by
  have hgov : s.clearVolumes.clearLine.governor = s.governor := by
    simpa [State.clearLine] using hs.clearVolumes.governor
  have hbays : s.bays.map (clearBay s.clock) = s.emptied.bays := List.map_congr_left fun r _ => clearBay_eq s.clock r
  rw [State.repace_of_stopped hgov hs.stopped hs.settled, hs.clearVolumes_eq hnumbers, State.clearLine]
  dsimp only
  rw [hbays]
  split <;> rfl

/-- R178: the sound state of LINE_CLEAR, as the request meets it. -/
theorem State.clearable_taken (hbounded : s.TablesBounded) (hcounted : s.TitlesCounted) (hmisses : s.MissesSound)
    (hsettled : s.PaceSettled) (hstop : s.governor.effective = .stop)
    (hpost : ∀ n ∈ s.postPress, ∃ v ∈ s.volumes, v.number = n) : s.taken.Clearable where
  misses := ⟨hbounded.volumeNumbersDistinct, hmisses.unbound, hmisses.distinct, hmisses.absent, hmisses.carried,
    hmisses.listed⟩
  codes := hcounted.codesDistinct
  resident := hcounted.boundResident
  count := hcounted.count
  retiring := fun t ht hret => (hcounted.retiring t ht hret).1
  post := hpost
  stopped := hstop
  settled := hsettled.lowest.symm.trans hstop

/-- Settles O47. -/
theorem lineClearEmptiesLine : Obligations.LineClearEmptiesLine := by
  unfold Obligations.LineClearEmptiesLine
  intro s h
  refine ⟨fun hrun => ?_, fun hstop hbounded hcounted hmisses hsettled hpost => ?_⟩
  · exact congrArg Host.Outcome.next (State.request_of_taken s h (if_neg hrun))
  · have hclear := (State.clearable_taken hbounded hcounted hmisses hsettled hstop hpost).clearLine_eq
      hbounded.volumeNumbers
    have hrequest : lineClearRequest s.taken = (if s.titles.any fun t => t.retiring then State.raise .retired s.taken.emptied
        else s.taken.emptied, okAnswer .lineClear (le 1 s.volumes.length)) := by
      refine (if_pos hstop).trans ?_
      rw [hclear]
      rfl
    have hshifted : (if s.titles.any fun t => t.retiring then State.raise .retired s.taken.emptied
        else s.taken.emptied).supervisor.shifted = [0x00#8] := by
      split <;> rfl
    refine congrArg Host.Outcome.next ((State.request_of_awaiting h hrequest hshifted).trans ?_)
    dsimp only
    split <;> rfl

end Sys2Proof.Machine
